-- ==== Sys2Proof/Word.lean ====
section
/-! DEFINITION. The words the manual moves over its lines: bytes of the service frame and the 4-byte fields
of request, reply and notice bodies (section 10.7), and the 32-bit uptime (R71). -/
namespace Sys2Proof

/-- A byte of the service line. -/
abbrev Byte := BitVec 8

/-- A 4-byte field of a body (signed, two's complement) and the 32-bit uptime. -/
abbrev Word := BitVec 32

end Sys2Proof
end

