-- ==== Sys2Proof/Syntax.lean ====
section
/-! DEFINITION. The commands of the BW460: one constructor per row of spec/opcode_table.json, with the
operands that the rule of the row gives it. Field events and timer expiries first, then the host's requests
(each carries the tag of its frame, R186), then the bytes and bits of the two lines. -/
namespace Sys2Proof

/-- The limit pattern formed by the two limit inputs (section 3.1). -/
inductive LimitPattern where
  | closedOnly | openOnly | neither | both
  deriving DecidableEq, Repr

/-- The state of the spill switch input (R27). -/
inductive SpillState where
  | asserted | released
  deriving DecidableEq, Repr

/-- The five temperature ports (section 8.1). -/
inductive TempPort where
  | ambient | riser | overflow | pit | sensor
  deriving DecidableEq, Repr

/-- The four heated zones, numbered 1 to 4 in this order (section 8.4). -/
inductive Zone where
  | riser | overflow | pit | sensor
  deriving DecidableEq, Repr

/-- The result carried by the write-complete event (R194). -/
inductive WriteResult where
  | ok | failed
  deriving DecidableEq, Repr

/-- The commands. A `tag` is the one-byte tag of the request's frame; a `Word` operand is one 4-byte field of
its body as the host sent it, in or out of range; `fields` are all the fields of the body in order. -/
inductive Instr where
  /-- POWER_ON, with the field inputs as they stand at that moment (R27, R65). -/
  | powerOn (limits : LimitPattern) (spill : SpillState)
  | headSensorArrival (count : Nat)
  /-- RANGE_SENSOR_ARRIVAL; `none` is the echo-lost marker (R2). -/
  | rangeSensorArrival (distance : Option Nat)
  | sampleTimerExpiry
  | spillSwitchChange (spill : SpillState)
  | limitChange (limits : LimitPattern)
  | watchdogExpiry
  | reproveExpiry
  | meterPulse
  | stallTimerExpiry
  | advance
  | temperatureArrival (port : TempPort) (value : Int)
  | validityTimerExpiry (port : TempPort)
  | seasonStep
  | startTimerExpiry
  | minOnExpiry (zone : Zone)
  | confirmExpiry (zone : Zone)
  | prepareTimerExpiry
  | callTimerExpiry
  | releaseTimerExpiry
  | retryTimerExpiry
  | turnoverTimerExpiry
  | linePeriodExpiry
  /-- STATION_FRAME: a frame completes, with the body's three parts as received (R129, R134). -/
  | stationFrame (address : BitVec 6) (code : BitVec 4) (check : BitVec 8)
  | silenceTimerExpiry
  /-- SERVICE_FRAME: a frame completes, with its parts as received; the length is that of the body (R183). -/
  | serviceFrame (kind tag : Byte) (body : List Byte) (check : BitVec 16)
  | gapTimerExpiry
  | collectTimerExpiry
  | writeComplete (result : WriteResult)
  | frameSent
  | statusGet (tag : Byte)
  | levelGet (tag : Byte)
  | sensorSet (tag : Byte) (fields : List Word)
  | sensorGet (tag : Byte)
  | strapSet (tag : Byte) (fields : List Word)
  | strapGet (tag : Byte)
  | guardSet (tag : Byte) (fields : List Word)
  | guardGet (tag : Byte) (part : Word)
  | guardClear (tag : Byte)
  | guardTest (tag : Byte) (offset count : Word)
  | valveSet (tag : Byte) (fields : List Word)
  | valveGet (tag : Byte)
  | faultClearValve (tag : Byte)
  | faultClearZone (tag : Byte) (zone : Word)
  | lineSet (tag : Byte) (fields : List Word)
  | lineGet (tag : Byte)
  | lineStats (tag : Byte)
  | clockSet (tag : Byte) (day seconds : Word)
  | clockGet (tag : Byte)
  | tariffSet (tag : Byte) (fields : List Word)
  | tariffGet (tag : Byte)
  | planSet (tag : Byte) (fields : List Word)
  | planGet (tag : Byte)
  | planShow (tag : Byte)
  | daysGet (tag : Byte) (part : Word)
  | fillsGet (tag : Byte) (part : Word)
  | fillNow (tag : Byte) (level : Word)
  | fillNowCancel (tag : Byte)
  | fillHoldOn (tag : Byte)
  | fillHoldOff (tag : Byte)
  | heatSet (tag : Byte) (fields : List Word)
  | heatGet (tag : Byte)
  | zoneSet (tag : Byte) (fields : List Word)
  | zoneGet (tag : Byte) (zone part : Word)
  | historySet (tag : Byte) (fields : List Word)
  | historyRead (tag : Byte) (count form : Word)
  | historyFlush (tag : Byte)
  | noticeMask (tag : Byte) (mask : Word)
  | commit (tag : Byte)
  | quiesce (tag : Byte) (keepHeat : Word)
  | resume (tag : Byte)
  | restart (tag : Byte)
  | serviceByte (byte : Byte)
  | stationBit (bit : Bool)
  | burstEnd
  deriving DecidableEq, Repr

end Sys2Proof
end

