-- ==== Sys2Proof/Decode.lean ====
section
/-! DEFINITION. Reading a command from a word of the operation table. No row of the table gives bits: the part takes events, and requests
in frames of bytes (Machine/Service.lean), so no word spells a command. -/
namespace Sys2Proof

def decodeTableWord (_nbits _w : Nat) : Option Instr := none

end Sys2Proof
end

