-- ==== Sys2Proof/Machine/Settings.lean ====
section
/-! DEFINITION. The settings groups (each chapter's settings table), every field with its default. Together they are
the working settings, and a copy of them is what the settings image holds (R193). -/
namespace Sys2Proof.Machine

/-- The two level sensors: A, the head sensor, and B, the range sensor. -/
inductive Sensor where
  | a | b
  deriving DecidableEq, Repr

/-- The setting combine (R38). -/
inductive Combine where
  | any | both
  deriving DecidableEq, Repr

/-- The setting supply_mode (section 7.7). -/
inductive SupplyMode where
  | called | pressured
  deriving DecidableEq, Repr

/-- The tariff bands (section 4.3). -/
inductive Band where
  | standard | cheap | peak
  deriving DecidableEq, Repr

/-- The setting plan_start (R93, R94). -/
inductive PlanStart where
  | early | late
  deriving DecidableEq, Repr

/-- The setting history_mode (R172). -/
inductive HistoryMode where
  | off | fill | roll | rollFreeze | idleRoll
  deriving DecidableEq, Repr

/-- Section 1.8, in the order of its table. -/
structure LmuSettings where
  samplePeriodS : Nat := 2
  staleS : Nat := 10
  warmSamples : Nat := 5
  aZero : Nat := 819
  aFull : Nat := 4095
  aSpanMm : Nat := 12000
  aOffsetMm : Nat := 0
  bMountMm : Nat := 12500
  flatWindow : Nat := 30
  flatBandMm : Nat := 3
  flatFlowL : Nat := 3000
  primary : Sensor := .a
  revertive : Bool := true
  revertSamples : Nat := 150
  agreeMm : Nat := 150
  agreeSamples : Nat := 15
  smoothK : Nat := 3
  rateSpan : Nat := 8
  deriving DecidableEq, Repr

/-- One point of the strapping table (R20). -/
structure StrapPoint where
  level : Nat
  volume : Nat
  deriving DecidableEq, Repr

/-- Section 2.8, in the order of its table. -/
structure GuardSettings where
  warnMm : Nat := 10400
  warnN : Nat := 3
  warnHystMm : Nat := 50
  warnExitN : Nat := 10
  tripMm : Nat := 10700
  tripN : Nat := 2
  spillN : Nat := 2
  combine : Combine := .any
  riseAfterTripMm : Nat := 100
  rearmMm : Nat := 10000
  passRate : Nat := 20
  passN : Nat := 15
  ceilingMarginMm : Nat := 300
  frostDerateMm : Nat := 500
  blindFill : Bool := false
  blindMarginL : Nat := 20000
  deriving DecidableEq, Repr

/-- Section 3.8: the valve and meter settings. -/
structure ValveSettings where
  valveTravelS : Nat := 90
  reproveS : Nat := 3
  litresPerPulse : Nat := 10
  meterStallS : Nat := 60
  deriving DecidableEq, Repr

/-- Section 7.8: the station line settings. -/
structure LineSettings where
  lineAddress : Nat := 1
  linePeriodS : Nat := 1
  persistN : Nat := 3
  supplyMode : SupplyMode := .called
  deriving DecidableEq, Repr

/-- Section 6.6: the Fill Sequencer's settings that LINE_SET carries. -/
structure SupplySettings where
  callWaitS : Nat := 120
  releaseWaitS : Nat := 120
  retryS : Nat := 600
  emergencyMm : Nat := 3000
  standardRefillL : Nat := 50000
  peakRefillL : Nat := 20000
  deriving DecidableEq, Repr

/-- One window of the tariff calendar (R74). The set of days has day d at bit d. -/
structure Window where
  start : Nat
  length : Nat
  days : BitVec 7
  band : Band
  deriving DecidableEq, Repr

/-- Section 5.6. -/
structure PlanSettings where
  floorMm : Nat := 5000
  defaultDrawL : Nat := 150000
  marginPct : Nat := 10
  qCapLpm : Nat := 500
  planStart : PlanStart := .early
  lateSlackMin : Nat := 30
  deriving DecidableEq, Repr

/-- Section 8.8, first table. -/
structure HeatSettings where
  frostOnT : Int := -20
  frostOffT : Int := 20
  frostPersistMin : Nat := 60
  ovfReadyT : Int := 10
  budgetCheapW : Nat := 9000
  budgetStandardW : Nat := 5000
  budgetPeakW : Nat := 2000
  minOnS : Nat := 120
  confirmMin : Nat := 20
  confirmRise : Nat := 5
  deriving DecidableEq, Repr

/-- Section 6.6: the Fill Sequencer's settings that HEAT_SET carries. -/
structure FrostFillSettings where
  prepareMaxMin : Nat := 60
  turnoverH : Nat := 24
  turnoverL : Nat := 40000
  deriving DecidableEq, Repr

/-- Section 8.8, one row of the zone table. -/
structure ZoneSettings where
  onT : Int
  offT : Int
  powerW : Nat
  priority : Nat
  enabled : Bool
  deriving DecidableEq, Repr

/-- Four like things, one for each zone. -/
structure Zones (α : Type) where
  riser : α
  overflow : α
  pit : α
  sensor : α
  deriving DecidableEq, Repr

/-- Section 9.5. The trigger mask has guard WARN at bit 0, guard TRIP 1, source change 2, line LOST 3,
frost entry 4. -/
structure HistorySettings where
  mode : HistoryMode := .roll
  every : Nat := 30
  pre : Nat := 64
  triggers : BitVec 5 := 3
  watermark : Nat := 96
  collectMin : Nat := 60
  deriving DecidableEq, Repr

/-- Every setting group of the manual (R193). An empty strapping table is no table in force (R20). -/
structure Settings where
  lmu : LmuSettings := {}
  strap : List StrapPoint := []
  ofg : GuardSettings := {}
  valve : ValveSettings := {}
  line : LineSettings := {}
  supply : SupplySettings := {}
  calendar : List Window := []
  plan : PlanSettings := {}
  heat : HeatSettings := {}
  frostFill : FrostFillSettings := {}
  zones : Zones ZoneSettings :=
    { riser := ⟨20, 50, 4000, 5, true⟩, overflow := ⟨20, 60, 3000, 4, true⟩,
      pit := ⟨30, 60, 2000, 2, true⟩, sensor := ⟨0, 40, 1500, 3, true⟩ }
  history : HistorySettings := {}
  deriving DecidableEq, Repr

end Sys2Proof.Machine
end

