-- ==== Sys2Proof/Config.lean ====
section
/-! DEFINITION. What the manual leaves open: constants without a body, so that no proof can see their values. -/
namespace Sys2Proof

/-- The rank of a block in the n-th draw of the order in which blocks take an event that is handed to several of them
(R118, R169, R187 leave it open). Free: every order is that of some ranks (log entry 4). -/
opaque Config.blockRank (draw block : Nat) : Nat

/-- The 32-bit check computed over a copy of the settings (R193), whose algorithm the manual does not give (log entry 7). -/
opaque Config.imageCheck (copy : Machine.Settings) : Word

/-- The code of the receiver's discard state (R133) in LINE_GET, which no list of the manual gives (log entry 30). -/
opaque Config.discardCode : Word

/-- The base uptime of a BRIEF HISTORY_READ acceptance that returns no entry (R178 gives it as the uptime of the first entry
returned; log entry 11). -/
opaque Config.emptyBase : Word

end Sys2Proof
end

