-- ==== Sys2Proof/Machine/State.lean ====
section
/-! DEFINITION. The state of the part, block by block, as plain data. The default of each field is its value after
power-on with an empty settings store (the chapters' "Values after each start"); State.reset is that state. -/
namespace Sys2Proof.Machine

/-- A timer: stopped (`none`), or running since the uptime of its load, with the seconds it was loaded with.
The expiry itself is a command (log entry 3). -/
structure Running where
  loadedAt : Word
  span : Nat
  deriving DecidableEq, Repr

abbrev Timer := Option Running

/-! ### Level Measurement Unit (chapter 1) -/

/-- The cause of FAILED (R8). -/
inductive FailCause where
  | range | stale
  deriving DecidableEq, Repr

/-- A sensor's health (R6, R8). -/
inductive Health where
  | absent | warming | good | suspectFlat | failed (cause : FailCause)
  deriving DecidableEq, Repr

/-- A held reading: the raw value of the latest arrival and its uptime (R1). -/
structure Reading where
  raw : Nat
  stamp : Word
  deriving DecidableEq, Repr

/-- What the LMU keeps for one sensor beside its health, which stands in the sample record. -/
structure SensorState where
  held : Option Reading := none
  warmCount : Nat := 0
  goodRun : Nat := 0
  flatRef : Option Nat := none
  /-- The flat-line window, oldest first; an empty entry is a sample without a VALID reading (R10). -/
  ring : List (Option Nat) := []
  deriving DecidableEq, Repr

/-- The sample record (R6). The active source NONE is `none`. -/
structure SampleRecord where
  uptime : Word := 0
  healthA : Health := .absent
  healthB : Health := .absent
  levelA : Option Nat := none
  levelB : Option Nat := none
  active : Option Sensor := none
  activeLevel : Option Nat := none
  smoothed : Option Nat := none
  rate : Option Int := none
  guardLevel : Option Nat := none
  swap : Bool := false
  disagree : Bool := false
  smoothedVolume : Option Nat := none
  guardVolume : Option Nat := none
  planningVolume : Option Nat := none
  deriving DecidableEq, Repr

structure Lmu where
  a : SensorState := {}
  b : SensorState := {}
  pulseRing : List Word := []
  /-- The smoothed-level accumulator S, in sixteenths of a millimetre (R18). -/
  acc : Int := 0
  seeded : Bool := false
  rateRing : List Nat := []
  disagreeCount : Nat := 0
  sample : SampleRecord := {}
  sampleTimer : Timer := some ⟨0, 2⟩
  deriving DecidableEq, Repr

/-! ### Overflow Guard (chapter 2) -/

inductive GuardState where
  | blind | clear | warn | tripped | isolate
  deriving DecidableEq, Repr

inductive TripCause where
  | level | spill | both | passing
  deriving DecidableEq, Repr

inductive Escalation where
  | closeFault | rise | passing
  deriving DecidableEq, Repr

/-- The reasons of a withdrawn permission (R46). -/
inductive WithdrawReason where
  | trip | warn | noCeiling | blind
  deriving DecidableEq, Repr

inductive TestStage where
  | clear | warn | trip
  deriving DecidableEq, Repr

inductive CloseResult where
  | notIssued | pending | proven | fault
  deriving DecidableEq, Repr

inductive TestResult where
  | complete | aborted
  deriving DecidableEq, Repr

/-- A running guard test (R48, R49). -/
structure GuardTest where
  offset : Nat
  count : Nat
  warnCount : Nat := 0
  tripCount : Nat := 0
  samplesRun : Nat := 0
  highest : TestStage := .clear
  /-- The samples needed to reach the highest stage; 0 when that is CLEAR. -/
  needed : Nat := 0
  closeResult : CloseResult := .notIssued
  deriving DecidableEq, Repr

/-- The record of the last test that ended (R50). -/
structure TestRecord where
  result : TestResult
  offset : Nat
  count : Nat
  samplesRun : Nat
  highest : TestStage
  needed : Nat
  closeResult : CloseResult
  deriving DecidableEq, Repr

/-- The previous trip, kept for GUARD_GET by GUARD_CLEAR (R43). -/
structure PrevTrip where
  cause : Option TripCause
  ref : Option Nat
  escalation : Option Escalation
  uptime : Option Word
  deriving DecidableEq, Repr

/-- The guard record (R26) and the held spill state (R27). -/
structure Ofg where
  state : GuardState := .blind
  blindFlag : Bool := true
  warnCount : Nat := 0
  exitCount : Nat := 0
  tripLevelCount : Nat := 0
  spillCount : Nat := 0
  passCount : Nat := 0
  /-- Whether the level and the spill condition were established at the sample before: what "new" in R38 is
  judged against (log entry 18). -/
  levelEst : Bool := false
  spillEst : Bool := false
  tripCause : Option TripCause := none
  tripRef : Option Nat := none
  escalation : Option Escalation := none
  tripUptime : Option Word := none
  vLast : Option Nat := none
  /-- The blind budget B, in litres. -/
  budget : Nat := 0
  ceilingMm : Nat := 9600
  ceilingVolume : Option Nat := none
  /-- Fill permission: GRANTED when true. -/
  granted : Bool := false
  /-- The reason of the last withdrawal. -/
  reason : WithdrawReason := .noCeiling
  test : Option GuardTest := none
  lastTest : Option TestRecord := none
  prevTrip : Option PrevTrip := none
  heldSpill : SpillState := .released
  deriving DecidableEq, Repr

/-! ### Inlet Valve Driver and Inflow Meter (chapter 3) -/

/-- The causes of a valve fault in the order of R63; PASSING is never the cause of the FAULT state. -/
inductive FaultCause where
  | openTimeout | closeTimeout | bothLimits | passing
  deriving DecidableEq, Repr

/-- The valve state (R54). -/
inductive ValveState where
  | unknown | closed | opening | opened | closing | fault (cause : FaultCause)
  deriving DecidableEq, Repr

inductive Drive where
  | idle | opening | closing
  deriving DecidableEq, Repr

/-- The fault record (R63): for each cause noted, the uptime of its latest noting. -/
structure FaultRecord where
  openTimeout : Option Word := none
  closeTimeout : Option Word := none
  bothLimits : Option Word := none
  passing : Option Word := none
  count : Nat := 0
  deriving DecidableEq, Repr

structure Ivd where
  state : ValveState := .closed
  pattern : LimitPattern := .closedOnly
  drive : Drive := .idle
  watchdog : Timer := none
  reprove : Timer := none
  forceClose : Bool := false
  faults : FaultRecord := {}
  deriving DecidableEq, Repr

structure Ifm where
  /-- The running pulse count, modulo 2^32. -/
  pulses : Word := 0
  /-- The fill tally in litres, `none` while no fill tally is open. -/
  fillTally : Option Nat := none
  /-- The day tally, held in pulses (R67). -/
  dayPulses : Nat := 0
  intervalTally : Nat := 0
  /-- The METER_STALL flag. -/
  stall : Bool := false
  armed : Bool := false
  stallTimer : Timer := none
  deriving DecidableEq, Repr

/-! ### Tariff Clock (chapter 4) -/

/-- The time of week (R71). -/
structure TimeOfWeek where
  day : Nat
  seconds : Nat
  deriving DecidableEq, Repr

/-- The cause of a band-change event (R79), and of a plan (R92). -/
inductive BandCause where
  | advance | clockSet | tariffSet | start
  deriving DecidableEq, Repr

/-- The clock record; the clock is SET when the time is present. The calendar stands in the working settings. -/
structure Tck where
  time : Option TimeOfWeek := none
  uptime : Word := 0
  band : Band := .standard
  /-- The second timer, which runs from power-on on and is never stopped (R71). -/
  secondRunning : Bool := true
  deriving DecidableEq, Repr

/-! ### Fill Planner (chapter 5) -/

inductive OpenedBy where
  | midnight | start
  deriving DecidableEq, Repr

/-- The open day record (R83); its inflow is the Inflow Meter's day tally. -/
structure DayRecord where
  day : Option Nat := none
  openedBy : OpenedBy := .start
  vStart : Option Nat := none
  partialDay : Bool := true
  adjusted : Bool := false
  noVolume : Bool := false
  deriving DecidableEq, Repr

/-- A closed day record (R84). -/
structure ClosedDay where
  opening : DayRecord
  vEnd : Option Nat
  inflow : Nat
  draw : Option Nat
  deriving DecidableEq, Repr

inductive StartState where
  | notNeeded | waiting | raised | cancelled
  deriving DecidableEq, Repr

/-- The inputs and results of a plan that passed step 3 of R89 (R90, R91). -/
structure PlanFigures where
  vNow : Nat
  vFloor : Nat
  vCeil : Nat
  w : Nat
  qEff : Nat
  n : Nat
  d : Nat
  f : Nat
  vWant : Nat
  vTarget : Nat
  targetLevel : Option Nat
  need : Nat
  capacity : Nat
  planned : Nat
  shortfall : Nat
  minutes : Nat
  deriving DecidableEq, Repr

/-- The plan record (R92). -/
structure Plan where
  uptime : Word
  time : Option TimeOfWeek
  cause : BandCause
  noSight : Bool := false
  noTable : Bool := false
  ceilingLimited : Bool := false
  disagree : Bool := false
  rateDefault : Bool := false
  forecastDefault : Bool := false
  figures : Option PlanFigures := none
  planStart : PlanStart
  /-- Absent in a plan that ends at step 3 of R89. -/
  lateSlackMin : Option Nat := none
  startState : StartState := .notNeeded
  raisedUptime : Option Word := none
  deriving DecidableEq, Repr

structure Fpl where
  openDay : DayRecord := {}
  ring : List ClosedDay := []
  learned : Option Nat := none
  plan : Option Plan := none
  /-- The top-up allowance in litres, or none (R96). -/
  allowance : Option Nat := none
  stallMark : Bool := false
  deriving DecidableEq, Repr

/-! ### Fill Sequencer (chapter 6) -/

inductive Kind where
  | night | topup | floor | turnover | manual
  deriving DecidableEq, Repr

/-- One row of the demand table (R103). -/
structure Row where
  active : Bool := false
  target : Nat := 0
  raised : Option Word := none
  attempts : Nat := 0
  /-- NIGHT only: the plan's P at the raising. -/
  planned : Option Nat := none
  /-- FLOOR only: the band of the threshold under which the row was raised. -/
  floorBand : Option Band := none
  /-- MANUAL only: the level the host asked for. -/
  level : Option Nat := none
  deriving DecidableEq, Repr

structure DemandTable where
  night : Row := {}
  topup : Row := {}
  floor : Row := {}
  turnover : Row := {}
  manual : Row := {}
  deriving DecidableEq, Repr

inductive SeqState where
  | idle | prepare | opening | calling | filling | releasing | closing
  deriving DecidableEq, Repr

/-- The end causes in the order of R117, and RESTART (R125). -/
inductive EndCause where
  | target | windowEnd | allowanceSpent | guardWarn | blindBudget | guard | callTimeout | stationBlocked
  | stationStopped | line | valveFault | host | quiesce | restart
  deriving DecidableEq, Repr

/-- A fill record (R125). `finalKind` and `targetEnd` are the working kind and target last in force for the fill. -/
structure FillRecord where
  start : Word
  endUptime : Option Word := none
  kind : Kind
  finalKind : Kind
  mode : SupplyMode
  targetStart : Nat
  targetEnd : Nat
  planned : Option Nat := none
  cause : Option EndCause := none
  prior : Option EndCause := none
  tally : Nat := 0
  /-- The uptime of entry to FILLING (R115). -/
  fillingAt : Option Word := none
  fillingSeconds : Nat := 0
  vStart : Option Nat := none
  vEnd : Option Nat := none
  ceilingCut : Bool := false
  continued : Bool := false
  tripped : Bool := false
  prepareExpired : Bool := false
  releaseTimeout : Bool := false
  meterStall : Bool := false
  deriving DecidableEq, Repr

structure Fsq where
  rows : DemandTable := {}
  /-- Set from the abandonment of a FLOOR row to the next band change (R109). -/
  floorAbandoned : Bool := false
  seq : SeqState := .idle
  fill : Option FillRecord := none
  journal : List FillRecord := []
  prepareTimer : Timer := none
  callTimer : Timer := none
  releaseTimer : Timer := none
  retryTimer : Timer := none
  turnoverTimer : Timer := some ⟨0, 86400⟩
  /-- The host hold (R123). -/
  hold : Bool := false
  deriving DecidableEq, Repr

/-! ### Station Line Interface (chapter 7) -/

inductive LineState where
  | ok | warn | lost
  deriving DecidableEq, Repr

/-- The station codes (R134). The accepted code UNKNOWN and the candidate NONE are absent values. -/
inductive StationCode where
  | ready | running | blocked | isolated
  deriving DecidableEq, Repr

/-- The tower codes (R129). -/
inductive TowerCode where
  | idle | call | hold
  deriving DecidableEq, Repr

/-- The last error code (R128): no error since the start, one of the five kinds, or NO_NEW. -/
inductive LineError where
  | noError | check | stuff | address | code | silence | noNew
  deriving DecidableEq, Repr

/-- The receiver (R133). The body and trailer bits stand in the order taken. `late` is QUIET while the burst that a RESTART found under way goes
on: its bits are no start of a burst (R147, log entry 40). -/
inductive LineRx where
  | quiet
  | late
  | hunting (last : List Bool)
  | body (bits : List Bool) (ones : Nat)
  | trailer (bits : List Bool) (stuffDue : Bool) (taken : List Bool)
  | discard
  deriving DecidableEq, Repr

structure Sli where
  state : LineState := .ok
  counter : Nat := 0
  recovery : Nat := 0
  candidate : Option StationCode := none
  persist : Nat := 0
  accepted : Option StationCode := none
  /-- The Fill Sequencer's wish: CALL when true, IDLE when false. -/
  wishCall : Bool := false
  holdRequest : Bool := false
  lastSent : Option TowerCode := none
  /-- The bits of the frame last begun on the line, in the order sent (R129). -/
  lineOut : List Bool := []
  lastError : LineError := .noError
  logCount : Nat := 0
  logFull : Bool := false
  rx : LineRx := .quiet
  periodTimer : Timer := some ⟨0, 1⟩
  silenceTimer : Timer := some ⟨0, 3⟩
  deriving DecidableEq, Repr

/-! ### Frost Heating Controller (chapter 8) -/

/-- A temperature record (R148): the latest value with the uptime of its arrival, and the validity timer. -/
structure TempRecord where
  value : Option Int := none
  stamp : Word := 0
  validity : Timer := none
  deriving DecidableEq, Repr

structure Temps where
  ambient : TempRecord := {}
  riser : TempRecord := {}
  overflow : TempRecord := {}
  pit : TempRecord := {}
  sensor : TempRecord := {}
  deriving DecidableEq, Repr

inductive Season where
  | unknown | inSeason | out
  deriving DecidableEq, Repr

inductive ZoneState where
  | off | want | on | fault | disabled
  deriving DecidableEq, Repr

inductive Proof where
  | pending | proven | unjudged | failed
  deriving DecidableEq, Repr

/-- The runtime part of a zone record (R153); the five settings stand in the working settings. -/
structure ZoneRec where
  state : ZoneState := .off
  need : Bool := false
  /-- The boost of 4 (R155). -/
  boost : Bool := false
  onSince : Option Word := none
  onTemp : Option Int := none
  minOn : Timer := none
  confirm : Timer := none
  proof : Option Proof := none
  deriving DecidableEq, Repr

structure Fhc where
  temps : Temps := {}
  season : Season := .unknown
  cold : Nat := 0
  warm : Nat := 0
  valid : Nat := 0
  seasonTimer : Timer := some ⟨0, 60⟩
  /-- The overflow path: PROVEN when true. -/
  pathProven : Bool := false
  zones : Zones ZoneRec := { riser := {}, overflow := {}, pit := {}, sensor := {} }
  startHold : Bool := true
  startTimer : Timer := some ⟨0, 60⟩
  /-- The budget in force at the previous run since the start (R157). -/
  lastBudget : Option Nat := none
  deriving DecidableEq, Repr

/-! ### Telemetry Recorder (chapter 9) -/

inductive TriggerState where
  | armed | triggered | frozen
  deriving DecidableEq, Repr

/-- A history entry (R169). -/
structure Entry where
  uptime : Word
  sequence : BitVec 16
  activeLevel : Option Nat
  smoothed : Option Nat
  rate : Option Int
  guardPeak : Option Nat
  inflow : Nat
  source : Option Sensor
  guardState : GuardState
  band : Band
  valve : ValveState
  swap : Bool
  disagree : Bool
  blind : Bool
  test : Bool
  frost : Bool
  clockUnset : Bool
  deriving DecidableEq, Repr

structure Trc where
  queue : List Entry := []
  trigger : TriggerState := .armed
  nextSequence : BitVec 16 := 0
  overrun : Nat := 0
  sampleCount : Nat := 0
  guardPeak : Option Nat := none
  swapMark : Bool := false
  disagreeMark : Bool := false
  blindMark : Bool := false
  testMark : Bool := false
  watermarkMark : Bool := false
  collectTimer : Timer := none
  deriving DecidableEq, Repr

/-! ### Service Port (chapter 10) -/

/-- A request: the kind, tag and body of a good frame (R183). -/
structure Request where
  kind : Byte
  tag : Byte
  body : List Byte
  deriving DecidableEq, Repr

/-- A reply as it will be sent (R186). `number` is its place in the order of forming (R189). -/
structure Reply where
  kind : Byte
  tag : Byte
  body : List Byte
  number : Nat
  deriving DecidableEq, Repr

/-- The notice classes in the order of their codes, 1 to 22 (section 10.3). -/
inductive NoticeClass where
  | guardChange | sourceChange | sensorHealth | disagree | valve | meter | lineChange | fillStart | fillEnd
  | demandAbandoned | plan | frost | zone | historyWatermark | historyStale | guardTestDone | commitDone
  | partState | uncalledSupply | turnoverBlocked | spillUnconfirmed | errorLogFull
  deriving DecidableEq, Repr

/-- A notice in the queue: class, uptime of the raising, and the fields of the raising rule. -/
structure Notice where
  cls : NoticeClass
  uptime : Word
  fields : List Word
  deriving DecidableEq, Repr

/-- Where the frame on the transmit line came from. -/
inductive TxSource where
  | reply | busy | notice
  deriving DecidableEq, Repr

/-- The frame on the transmit line (R189). -/
structure TxFrame where
  source : TxSource
  kind : Byte
  tag : Byte
  body : List Byte
  deriving DecidableEq, Repr

/-- The receiver (R182), with the bytes of the frame in progress. -/
inductive ServiceRx where
  | hunt
  | header (taken : List Byte)
  | body (length : Nat) (kind tag : Byte) (taken : List Byte)
  | check (kind tag : Byte) (body : List Byte) (taken : List Byte)
  deriving DecidableEq, Repr

structure Svp where
  rx : ServiceRx := .hunt
  /-- The gap timer (50 ms, R182): running or stopped. -/
  gapRunning : Bool := false
  queue : List Request := []
  reply : Option Reply := none
  busy : Option Reply := none
  /-- The replies formed so far, by which the arbiter knows the earlier of two (R189). -/
  formed : Nat := 0
  notices : List Notice := []
  /-- Bit c − 1 enables the class of code c (R188). -/
  mask : BitVec 22 := BitVec.allOnes 22
  lost : Nat := 0
  gapErrors : Nat := 0
  checkErrors : Nat := 0
  lengthErrors : Nat := 0
  dropped : Nat := 0
  /-- The frame being sent; `none` while the transmitter is idle. -/
  tx : Option TxFrame := none
  deriving DecidableEq, Repr

/-! ### Settings Store (chapter 11) -/

inductive PartState where
  | unconfigured | running | quiescing | quiet
  deriving DecidableEq, Repr

/-- The non-volatile image: a copy of the working settings and the check written with it (R193). -/
structure Image where
  copy : Settings
  check : Word
  deriving DecidableEq, Repr

structure Sst where
  working : Settings := {}
  /-- The non-volatile store; `none` holds no image, or one cut short. -/
  image : Option Image := none
  /-- The image state: VALID when true. -/
  imageValid : Bool := false
  /-- The copy being written; the commit state is IN_FLIGHT while it is present (R194). -/
  writing : Option Settings := none
  part : PartState := .unconfigured
  keepHeat : Bool := true
  deriving DecidableEq, Repr

/-! ### The part -/

/-- The blocks, as receivers of an event that is handed to several of them. -/
inductive Block where
  | lmu | ofg | ivd | ifm | tck | fpl | fsq | sli | fhc | trc | svp | sst
  deriving DecidableEq, Repr

def Block.all : List Block := [.lmu, .ofg, .ivd, .ifm, .tck, .fpl, .fsq, .sli, .fhc, .trc, .svp, .sst]

/-- The whole state. The last three fields are the model's own: the waiting commands, the free order in which the blocks
take an event handed to several of them, and the count of orders drawn (log entries 1 and 4). -/
structure State where
  lmu : Lmu := {}
  ofg : Ofg := {}
  ivd : Ivd := {}
  ifm : Ifm := {}
  tck : Tck := {}
  fpl : Fpl := {}
  fsq : Fsq := {}
  sli : Sli := {}
  fhc : Fhc := {}
  trc : Trc := {}
  svp : Svp := {}
  sst : Sst := {}
  pending : List Instr := []
  order : List Block := Block.all
  draws : Nat := 0
  deriving DecidableEq, Repr

/-- The faults of a step. The manual gives every command an effect in every state, so no meaning raises one and the type
has no constructor: a claim that a step does not fault holds by the type (log entry 6). -/
inductive Fault where
  deriving DecidableEq, Repr

/-- The refusals of a step. -/
inductive Refusal where
  /-- Raised only by an arm of `exec` whose command has no meaning yet (safe: the machine stops). -/
  | notModelled (mnemonic : String)
  deriving DecidableEq, Repr

/-- Power-on with an empty settings store, both field inputs at rest (closed limit asserted, spill switch released), and the
PART_STATE notice of R196 on the transmit line (log entry 6). -/
def State.reset : State :=
  let body : List Byte :=
    [18, 0, 0, 0, 0, 0, 0, 0, 0, 0, 0x80, 0, 0, 0, 0, 0, 0, 1]
  { svp := { tx := some ⟨.notice, 0x60, 0, body⟩ } }

/-! Setters, one for each block and each of the model's own fields. -/

def State.withLmu (s : State) (x : Lmu) : State := { s with lmu := x }
def State.withOfg (s : State) (x : Ofg) : State := { s with ofg := x }
def State.withIvd (s : State) (x : Ivd) : State := { s with ivd := x }
def State.withIfm (s : State) (x : Ifm) : State := { s with ifm := x }
def State.withTck (s : State) (x : Tck) : State := { s with tck := x }
def State.withFpl (s : State) (x : Fpl) : State := { s with fpl := x }
def State.withFsq (s : State) (x : Fsq) : State := { s with fsq := x }
def State.withSli (s : State) (x : Sli) : State := { s with sli := x }
def State.withFhc (s : State) (x : Fhc) : State := { s with fhc := x }
def State.withTrc (s : State) (x : Trc) : State := { s with trc := x }
def State.withSvp (s : State) (x : Svp) : State := { s with svp := x }
def State.withSst (s : State) (x : Sst) : State := { s with sst := x }
def State.withPending (s : State) (x : List Instr) : State := { s with pending := x }
def State.withOrder (s : State) (x : List Block) : State := { s with order := x }
def State.withDraws (s : State) (x : Nat) : State := { s with draws := x }

end Sys2Proof.Machine
end

