-- ==== Sys2Proof/Machine/Ops.lean ====
section
/-! DEFINITION. The shared operations: arithmetic, timers, bytes and checks, the order of hand-overs, and the Service Port's
notices and transmit arbiter. -/
namespace Sys2Proof.Machine

/-! ### Arithmetic (00_scope.md, "Arithmetic") -/

/-- A division rounded up. -/
def ceilDiv (n d : Nat) : Nat := (n + d - 1) / d

/-- "Clamped to a..b". -/
def clamp (a b x : Int) : Int := if x < a then a else if b < x then b else x

def absDiff (a b : Nat) : Nat := if a ≤ b then b - a else a - b

/-- The newest entry joins a ring of at most `cap` entries; the oldest leave. -/
def push {α : Type} (cap : Nat) (ring : List α) (x : α) : List α :=
  (ring ++ [x]).drop (ring.length + 1 - cap)

/-- A stable insertion sort by a rising key. -/
def insertBy {α : Type} (key : α → Nat) (x : α) : List α → List α
  | [] => [x]
  | y :: ys => if key x ≤ key y then x :: y :: ys else y :: insertBy key x ys

def sortBy {α : Type} (key : α → Nat) : List α → List α
  | [] => []
  | x :: xs => insertBy key x (sortBy key xs)

/-! ### Uptime and timers -/

/-- The working settings (R193). -/
def State.cfg (s : State) : Settings := s.sst.working

/-- The uptime every block stamps with (R71). -/
def State.now (s : State) : Word := s.tck.uptime

/-- Seconds of uptime since a stamp, modulo 2^32 (log entry 9). -/
def elapsed (now stamp : Word) : Nat := (now - stamp).toNat

/-- A timer loaded now with a number of seconds. -/
def State.load (s : State) (seconds : Nat) : Timer := some ⟨s.now, seconds⟩

/-- The whole seconds a running timer has left (log entry 3). -/
def remaining (now : Word) (t : Timer) : Option Nat := t.map fun r => r.span - elapsed now r.loadedAt

/-- An age in seconds, saturating at 65535 (R6, R149). -/
def age (now stamp : Word) : Nat := min 65535 (elapsed now stamp)

/-! ### Bytes and fields (section 10.7) -/

/-- The absent value of a 4-byte field. -/
def absentField : Word := 0x80000000#32

def numField (n : Nat) : Word := BitVec.ofNat 32 n
def intField (i : Int) : Word := BitVec.ofInt 32 i
def optNum (o : Option Nat) : Word := (o.map numField).getD absentField
def optInt (o : Option Int) : Word := (o.map intField).getD absentField
def optWord (o : Option Word) : Word := o.getD absentField

/-- Set, on and yes stand first in the lists that name them, so they take code 0 (log entry 10). -/
def twoWay (b : Bool) : Word := if b then 0 else 1

/-- A 4-byte field, high byte first. -/
def wordBytes (w : Word) : List Byte :=
  [w.extractLsb' 24 8, w.extractLsb' 16 8, w.extractLsb' 8 8, w.extractLsb' 0 8]

/-- A 2-byte field, high byte first. -/
def halfBytes (w : BitVec 16) : List Byte := [w.extractLsb' 8 8, w.extractLsb' 0 8]

def fieldBytes (fields : List Word) : List Byte := fields.flatMap wordBytes

/-- The whole 4-byte fields of a body, in order; a rest of fewer than four bytes is left out. -/
def bytesFields : List Byte → List Word
  | a :: b :: c :: d :: rest => (a ++ b ++ c ++ d) :: bytesFields rest
  | _ => []

/-! ### Checks -/

/-- The bits of a byte, most significant first. -/
def msbBits (b : Byte) : List Bool := [7, 6, 5, 4, 3, 2, 1, 0].map b.getLsbD

/-- One bit into the CRC-16 register of the service frame. -/
def crc16Step (reg : BitVec 16) (bit : Bool) : BitVec 16 :=
  if reg.msb != bit then (reg <<< 1) ^^^ 0x1021#16 else reg <<< 1

/-- The service frame's check over length, kind, tag and body. -/
def crc16 (bytes : List Byte) : BitVec 16 := (bytes.flatMap msbBits).foldl crc16Step 0xFFFF#16

/-- One bit into the check register of the station line (R129). -/
def crc8Step (reg : BitVec 8) (bit : Bool) : BitVec 8 :=
  if reg.msb != bit then (reg <<< 1) ^^^ 7#8 else reg <<< 1

def crc8 (bits : List Bool) : BitVec 8 := bits.foldl crc8Step 0#8

/-- The bits of a number, least significant first. -/
def lsbBits (n : Nat) (x : Nat) : List Bool := (List.range n).map x.testBit

/-- The number whose bits, least significant first, are given. -/
def ofLsbBits (bits : List Bool) : Nat := bits.foldr (fun b n => 2 * n + b.toNat) 0

/-! ### The free order of hand-overs (log entry 4) -/

def Block.index : Block → Nat
  | .lmu => 0 | .ofg => 1 | .ivd => 2 | .ifm => 3 | .tck => 4 | .fpl => 5
  | .fsq => 6 | .sli => 7 | .fhc => 8 | .trc => 9 | .svp => 10 | .sst => 11

/-- The order of the n-th draw. -/
def freeOrder (draw : Nat) : List Block := sortBy (fun b => Config.blockRank draw b.index) Block.all

/-- Draws the order for one command. -/
def State.drawOrder (s : State) : State := (s.withOrder (freeOrder s.draws)).withDraws (s.draws + 1)

/-- The receivers of an event in the order in force; each stands in it once, whatever the order. -/
def State.inOrder (s : State) (receivers : List Block) : List Block := sortBy (fun b => s.order.idxOf b) receivers

/-- Hands one event to each receiver in turn. -/
def State.handTo (s : State) (receivers : List Block) (take : Block → State → State) : State :=
  (s.inOrder receivers).foldl (fun t b => take b t) s

/-! ### Notices and the transmit arbiter (sections 10.3 and 10.4) -/

def NoticeClass.code : NoticeClass → Nat
  | .guardChange => 1 | .sourceChange => 2 | .sensorHealth => 3 | .disagree => 4 | .valve => 5 | .meter => 6
  | .lineChange => 7 | .fillStart => 8 | .fillEnd => 9 | .demandAbandoned => 10 | .plan => 11 | .frost => 12
  | .zone => 13 | .historyWatermark => 14 | .historyStale => 15 | .guardTestDone => 16 | .commitDone => 17
  | .partState => 18 | .uncalledSupply => 19 | .turnoverBlocked => 20 | .spillUnconfirmed => 21 | .errorLogFull => 22

/-- The frame of a notice, with the lost count in its header. -/
def noticeFrame (lost : Nat) (n : Notice) : TxFrame :=
  ⟨.notice, 0x60, 0, [BitVec.ofNat 8 n.cls.code, BitVec.ofNat 8 lost] ++ wordBytes n.uptime ++ fieldBytes n.fields⟩

/-- The bytes of a frame on the line, sync to check. -/
def TxFrame.bytes (f : TxFrame) : List Byte :=
  let checked := BitVec.ofNat 8 f.body.length :: f.kind :: f.tag :: f.body
  0xA5#8 :: checked ++ halfBytes (crc16 checked)

/-- The reply the arbiter takes: the only one waiting, or of two the one formed earlier (R189). -/
def Svp.waitingReply (v : Svp) : Option (TxSource × Reply) :=
  match v.reply, v.busy with
  | some r, some b => if b.number < r.number then some (.busy, b) else some (.reply, r)
  | some r, none => some (.reply, r)
  | none, some b => some (.busy, b)
  | none, none => none

/-- The transmit arbiter (R189): with the transmitter idle it takes one frame to send, a reply before any notice. -/
def Svp.arbitrate (v : Svp) : Svp :=
  match v.tx with
  | some _ => v
  | none =>
    match v.waitingReply with
    | some (source, r) => { v with tx := some ⟨source, r.kind, r.tag, r.body⟩ }
    | none =>
      match v.notices with
      | n :: rest => { v with notices := rest, lost := 0, tx := some (noticeFrame v.lost n) }
      | [] => v

/-- A notice reaches the Service Port (R187). -/
def Svp.takeNotice (v : Svp) (n : Notice) : Svp :=
  if v.mask.getLsbD (n.cls.code - 1) then
    if v.notices.length < 16 then { v with notices := v.notices ++ [n] }.arbitrate
    else { v with lost := min 255 (v.lost + 1) }
  else v

/-- A block raises a notice with the fields of the raising rule. -/
def State.raise (s : State) (cls : NoticeClass) (fields : List Word) : State :=
  s.withSvp (s.svp.takeNotice ⟨cls, s.now, fields⟩)

end Sys2Proof.Machine
end

