-- ==== Sys2Proof/Machine/Flags.lean ====
section
/-! DEFINITION. Values computed from the state and never stored: volume conversions, the band and its remaining run, fill
permission, the working target, the outgoing code, the reported season, the budget in force, and the status flags. -/
namespace Sys2Proof.Machine

/-! ### Strapping-table conversions (R21, R22) -/

/-- The forward conversion of a level above the first point's level. -/
def segForward : List StrapPoint → Nat → Nat
  | p :: q :: rest, l =>
    if l < q.level then p.volume + (l - p.level) * (q.volume - p.volume) / (q.level - p.level)
    else segForward (q :: rest) l
  | [p], _ => p.volume
  | [], _ => 0

/-- R21: a level to a volume; absent while no table is in force. -/
def volumeAt (table : List StrapPoint) (level : Nat) : Option Nat :=
  match table with
  | [] => none
  | p :: _ => some (if level ≤ p.level then p.volume else segForward table level)

/-- The inverse conversion of a volume above the first point's volume. -/
def segInverse : List StrapPoint → Nat → Nat
  | p :: q :: rest, v =>
    if v ≤ q.volume then p.level + (v - p.volume) * (q.level - p.level) / (q.volume - p.volume)
    else segInverse (q :: rest) v
  | [p], _ => p.level
  | [], _ => 0

/-- R22: a volume to a level; absent while no table is in force. -/
def levelAt (table : List StrapPoint) (volume : Nat) : Option Nat :=
  match table with
  | [] => none
  | p :: _ => some (if volume ≤ p.volume then p.level else segInverse table volume)

/-- The tank's present volume as the FPL and the FSQ take it (R23). -/
def State.vNow (s : State) : Option Nat := s.lmu.sample.planningVolume

/-! ### Tariff band (R74, R78, R80) -/

/-- Whether one of a window's occurrences covers a minute of week. -/
def Window.covers (w : Window) (minute : Nat) : Bool :=
  (List.range 7).any fun d =>
    w.days.getLsbD d && decide ((minute + 10080 - (d * 1440 + w.start) % 10080) % 10080 < w.length)

/-- R78: the band of a minute of week. -/
def bandAt (calendar : List Window) (minute : Nat) : Band :=
  match calendar.find? (fun w => w.covers minute) with
  | some w => w.band
  | none => .standard

/-- The minutes from `k` on, at most `fuel`, until the band differs from `band`. -/
def runFrom (calendar : List Window) (minute : Nat) (band : Band) : Nat → Nat → Nat
  | 0, k => k
  | fuel + 1, k =>
    if bandAt calendar ((minute + k) % 10080) = band then runFrom calendar minute band fuel (k + 1) else k

/-- R80: the run remaining at a minute of week. -/
def runRemaining (calendar : List Window) (minute : Nat) : Nat :=
  runFrom calendar minute (bandAt calendar minute) 10080 0

def TimeOfWeek.minute (t : TimeOfWeek) : Nat := t.day * 1440 + t.seconds / 60

/-- The band by R78 for the present time; STANDARD while the clock is UNSET. -/
def State.evalBand (s : State) : Band :=
  match s.tck.time with
  | some t => bandAt s.cfg.calendar t.minute
  | none => .standard

/-- The run remaining at the present minute; absent while the clock is UNSET. -/
def State.runLeft (s : State) : Option Nat := s.tck.time.map fun t => runRemaining s.cfg.calendar t.minute

/-! ### Overflow Guard -/

/-- R28: ceiling_mm, with the derate while the overflow path is NOT PROVEN. -/
def ceilingOf (g : GuardSettings) (pathProven : Bool) : Nat :=
  g.warnMm - g.ceilingMarginMm - (if pathProven then 0 else g.frostDerateMm)

/-- R46: the reason of a withdrawal, or none when permission is GRANTED. -/
def withdrawal (blindFill : Bool) (g : Ofg) : Option WithdrawReason :=
  match g.state with
  | .tripped | .isolate => some .trip
  | .warn => some .warn
  | .clear => if g.ceilingVolume.isSome then none else some .noCeiling
  | .blind =>
    if g.ceilingVolume.isNone then some .noCeiling
    else if blindFill && decide (0 < g.budget) then none else some .blind

def GuardState.latched : GuardState → Bool
  | .tripped | .isolate => true
  | _ => false

/-! ### Inlet Valve Driver and Inflow Meter -/

def ValveState.isFault : ValveState → Bool
  | .fault _ => true
  | _ => false

/-- R63: the fault record holds no cause. -/
def FaultRecord.isEmpty (f : FaultRecord) : Bool :=
  f.openTimeout.isNone && f.closeTimeout.isNone && f.bothLimits.isNone && f.passing.isNone

/-- R68: whether stall supervision is to be armed. -/
def State.armable (s : State) : Bool :=
  decide (s.ivd.state = .opened) &&
    (decide (s.cfg.line.supplyMode = .pressured) || decide (s.sli.accepted = some .running))

/-- R67: the day tally in litres, with the litres_per_pulse in force. -/
def State.dayLitres (s : State) : Nat := s.ifm.dayPulses * s.cfg.valve.litresPerPulse

/-! ### Demand table (R103) -/

def Kind.all : List Kind := [.night, .topup, .floor, .turnover, .manual]

def DemandTable.row (t : DemandTable) : Kind → Row
  | .night => t.night | .topup => t.topup | .floor => t.floor | .turnover => t.turnover | .manual => t.manual

def DemandTable.setRow (t : DemandTable) (k : Kind) (r : Row) : DemandTable :=
  match k with
  | .night => { t with night := r } | .topup => { t with topup := r } | .floor => { t with floor := r }
  | .turnover => { t with turnover := r } | .manual => { t with manual := r }

/-- The bands in which a kind is allowed (section 6.1). -/
def Kind.allowed (k : Kind) (b : Band) : Bool :=
  match k, b with
  | .night, .cheap => true
  | .night, _ => false
  | .topup, .standard => true
  | .topup, _ => false
  | .turnover, .peak => false
  | .turnover, _ => true
  | .floor, _ => true
  | .manual, _ => true

/-- R103: the working kind and working target: the highest target among the active rows allowed in the band, the first in table
order where two share it. -/
def workingOf (t : DemandTable) (b : Band) : Option (Kind × Nat) :=
  Kind.all.foldl (fun best k =>
    if (t.row k).active && k.allowed b then
      match best with
      | some (_, target) => if target < (t.row k).target then some (k, (t.row k).target) else best
      | none => some (k, (t.row k).target)
    else best) none

def State.working (s : State) : Option (Kind × Nat) := workingOf s.fsq.rows s.tck.band

/-- The number of active rows. -/
def DemandTable.activeCount (t : DemandTable) : Nat := (Kind.all.filter fun k => (t.row k).active).length

/-- A fill is running from the moment the sequence leaves IDLE until it returns (section 6.2). -/
def State.fillRunning (s : State) : Bool := decide (s.fsq.seq ≠ .idle)

/-- R109: the end causes of a failed fill. -/
def EndCause.failed : EndCause → Bool
  | .callTimeout | .stationBlocked | .stationStopped | .line | .valveFault => true
  | _ => false

/-! ### Station line (R129, R132) -/

/-- R132: the outgoing code. -/
def Sli.outgoing (l : Sli) : TowerCode := if l.holdRequest then .hold else if l.wishCall then .call else .idle

/-! ### Frost Heating Controller -/

def allZones : List Zone := [.riser, .overflow, .pit, .sensor]

def zoneNumber : Zone → Nat
  | .riser => 1 | .overflow => 2 | .pit => 3 | .sensor => 4

def zonePort : Zone → TempPort
  | .riser => .riser | .overflow => .overflow | .pit => .pit | .sensor => .sensor

def Zones.get {α : Type} (t : Zones α) : Zone → α
  | .riser => t.riser | .overflow => t.overflow | .pit => t.pit | .sensor => t.sensor

def Zones.put {α : Type} (t : Zones α) (z : Zone) (x : α) : Zones α :=
  match z with
  | .riser => { t with riser := x } | .overflow => { t with overflow := x }
  | .pit => { t with pit := x } | .sensor => { t with sensor := x }

def Zones.map {α β : Type} (t : Zones α) (f : Zone → α → β) : Zones β :=
  ⟨f .riser t.riser, f .overflow t.overflow, f .pit t.pit, f .sensor t.sensor⟩

def Temps.get (t : Temps) : TempPort → TempRecord
  | .ambient => t.ambient | .riser => t.riser | .overflow => t.overflow | .pit => t.pit | .sensor => t.sensor

def Temps.put (t : Temps) (p : TempPort) (r : TempRecord) : Temps :=
  match p with
  | .ambient => { t with ambient := r } | .riser => { t with riser := r } | .overflow => { t with overflow := r }
  | .pit => { t with pit := r } | .sensor => { t with sensor := r }

/-- R148: the reading of a record while it is valid. -/
def TempRecord.reading (r : TempRecord) : Option Int :=
  match r.validity, r.value with
  | some _, some v => if -500 ≤ v ∧ v ≤ 800 then some v else none
  | _, _ => none

/-- R151: the reported season is IN while the state is IN or UNKNOWN. -/
def Season.reportedIn : Season → Bool
  | .out => false
  | _ => true

/-- R156: quiescence without heat. -/
def State.heatCut (s : State) : Bool :=
  (decide (s.sst.part = .quiescing) || decide (s.sst.part = .quiet)) && !s.sst.keepHeat

/-- R156: the budget in force. -/
def State.budget (s : State) : Nat :=
  if s.heatCut then 0 else
    match s.tck.band with
    | .cheap => s.cfg.heat.budgetCheapW
    | .standard => s.cfg.heat.budgetStandardW
    | .peak => s.cfg.heat.budgetPeakW

/-- The total power of the zones ON (R153). -/
def State.powerUsed (s : State) : Nat :=
  (allZones.map fun z => if (s.fhc.zones.get z).state = .on then (s.cfg.zones.get z).powerW else 0).sum

/-- R155: a zone's effective priority. -/
def effPriority (c : ZoneSettings) (z : ZoneRec) : Nat := min 11 (c.priority + if z.boost then 4 else 0)

/-! ### Status flags (section 10.7, STATUS_GET offset 5) -/

def State.statusFlags (s : State) : Byte :=
  BitVec.ofNat 8 (ofLsbBits [s.sst.writing.isSome, s.tck.time.isSome, s.ifm.stall, s.ivd.forceClose,
    !s.ivd.faults.isEmpty, s.fsq.hold, s.ofg.blindFlag, s.lmu.sample.disagree])

end Sys2Proof.Machine
end

