-- ==== Sys2Proof/Machine/Operands.lean ====
section
/-! DEFINITION. Operand forms: the codes of the choices, the fields of the SET bodies with their ranges in the order of the settings
tables, and the same fields as the GET replies carry them (section 10.7). -/
namespace Sys2Proof.Machine

/-! ### Refusals (R186) -/

inductive Reason where
  | unknownKind | badLength | badValue | inconsistent | busy | state | levelHigh | noSight
  deriving DecidableEq, Repr

def Reason.code : Reason → Byte
  | .unknownKind => 1 | .badLength => 2 | .badValue => 3 | .inconsistent => 4
  | .busy => 5 | .state => 6 | .levelHigh => 7 | .noSight => 8

/-- An owner's answer to a request: acceptance with a body, or refusal with a reason and a detail. -/
inductive Answer where
  | accept (body : List Byte)
  | refuse (reason : Reason) (detail : List Byte)
  deriving DecidableEq, Repr

def badValue (index : Nat) : Answer := .refuse .badValue [BitVec.ofNat 8 index]
def inconsistent : Answer := .refuse .inconsistent []
def busyCommit : Answer := .refuse .busy [1]
def badState : Answer := .refuse .state []
def acceptFields (fields : List Word) : Answer := .accept (fieldBytes fields)
def acceptEmpty : Answer := .accept []

/-! ### Codes of the choices (section 10.7; log entry 10) -/

def Sensor.code : Sensor → Nat
  | .a => 1 | .b => 2

/-- Active source: 0 NONE, 1 A, 2 B. -/
def sourceCode (o : Option Sensor) : Nat := (o.map Sensor.code).getD 0

def Combine.code : Combine → Nat
  | .any => 0 | .both => 1

def SupplyMode.code : SupplyMode → Nat
  | .called => 0 | .pressured => 1

def Band.code : Band → Nat
  | .standard => 0 | .cheap => 1 | .peak => 2

def PlanStart.code : PlanStart → Nat
  | .early => 0 | .late => 1

def HistoryMode.code : HistoryMode → Nat
  | .off => 0 | .fill => 1 | .roll => 2 | .rollFreeze => 3 | .idleRoll => 4

def Health.code : Health → Nat
  | .absent => 0 | .warming => 1 | .good => 2 | .suspectFlat => 3 | .failed .range => 4 | .failed .stale => 5

/-- The cause of a health: FLAT 0, RANGE 1, STALE 2, absent otherwise. -/
def Health.causeField : Health → Word
  | .suspectFlat => 0 | .failed .range => 1 | .failed .stale => 2 | _ => absentField

def GuardState.code : GuardState → Nat
  | .blind => 0 | .clear => 1 | .warn => 2 | .tripped => 3 | .isolate => 4

def TripCause.code : TripCause → Nat
  | .level => 1 | .spill => 2 | .both => 3 | .passing => 4

def tripCauseCode (o : Option TripCause) : Nat := (o.map TripCause.code).getD 0

def Escalation.code : Escalation → Nat
  | .closeFault => 0 | .rise => 1 | .passing => 2

def WithdrawReason.code : WithdrawReason → Nat
  | .trip => 0 | .warn => 1 | .noCeiling => 2 | .blind => 3

def TestStage.code : TestStage → Nat
  | .clear => 0 | .warn => 1 | .trip => 2

def CloseResult.code : CloseResult → Nat
  | .notIssued => 0 | .pending => 1 | .proven => 2 | .fault => 3

def TestResult.code : TestResult → Nat
  | .complete => 0 | .aborted => 1

def ValveState.code : ValveState → Nat
  | .unknown => 0 | .closed => 1 | .opening => 2 | .opened => 3 | .closing => 4 | .fault _ => 5

def FaultCause.code : FaultCause → Nat
  | .openTimeout => 0 | .closeTimeout => 1 | .bothLimits => 2 | .passing => 3

def ValveState.causeField : ValveState → Word
  | .fault c => numField c.code
  | _ => absentField

/-- The order of the table in section 3.1. -/
def patternCode : LimitPattern → Nat
  | .closedOnly => 0 | .openOnly => 1 | .neither => 2 | .both => 3

def Drive.code : Drive → Nat
  | .idle => 0 | .opening => 1 | .closing => 2

def BandCause.code : BandCause → Nat
  | .advance => 0 | .clockSet => 1 | .tariffSet => 2 | .start => 3

def OpenedBy.code : OpenedBy → Nat
  | .midnight => 0 | .start => 1

def StartState.code : StartState → Nat
  | .notNeeded => 0 | .waiting => 1 | .raised => 2 | .cancelled => 3

/-- Demand kind: 0 none, then the kinds in table order. -/
def Kind.code : Kind → Nat
  | .night => 1 | .topup => 2 | .floor => 3 | .turnover => 4 | .manual => 5

def SeqState.code : SeqState → Nat
  | .idle => 0 | .prepare => 1 | .opening => 2 | .calling => 3 | .filling => 4 | .releasing => 5 | .closing => 6

def EndCause.code : EndCause → Nat
  | .target => 0 | .windowEnd => 1 | .allowanceSpent => 2 | .guardWarn => 3 | .blindBudget => 4 | .guard => 5
  | .callTimeout => 6 | .stationBlocked => 7 | .stationStopped => 8 | .line => 9 | .valveFault => 10 | .host => 11
  | .quiesce => 12 | .restart => 13

def LineState.code : LineState → Nat
  | .ok => 0 | .warn => 1 | .lost => 2

def StationCode.code : StationCode → Nat
  | .ready => 8 | .running => 9 | .blocked => 10 | .isolated => 11

/-- The accepted code: 255 for UNKNOWN. -/
def acceptedCode (o : Option StationCode) : Nat := (o.map StationCode.code).getD 255

def TowerCode.code : TowerCode → Nat
  | .idle => 0 | .call => 1 | .hold => 2

def LineError.number : LineError → Nat
  | .noError => 0 | .check => 1 | .stuff => 2 | .address => 3 | .code => 4 | .silence => 5 | .noNew => 6

def Season.code : Season → Nat
  | .unknown => 0 | .inSeason => 1 | .out => 2

def pathCode (proven : Bool) : Nat := if proven then 1 else 0

def ZoneState.code : ZoneState → Nat
  | .off => 0 | .want => 1 | .on => 2 | .fault => 3 | .disabled => 4

def Proof.code : Proof → Nat
  | .pending => 0 | .proven => 1 | .unjudged => 2 | .failed => 3

def TriggerState.code : TriggerState → Nat
  | .armed => 0 | .triggered => 1 | .frozen => 2

def PartState.code : PartState → Nat
  | .unconfigured => 0 | .running => 1 | .quiescing => 2 | .quiet => 3

/-! ### Reading the fields of a body -/

/-- Field i as a signed number. -/
def intAt (fs : List Word) (i : Nat) : Int := (fs.getD i 0).toInt

def natAt (fs : List Word) (i : Nat) : Nat := (intAt fs i).toNat

/-- A two-way choice: 0 for the first of the pair. -/
def firstAt (fs : List Word) (i : Nat) : Bool := decide (natAt fs i = 0)

def inRange (lo hi x : Int) : Bool := decide (lo ≤ x) && decide (x ≤ hi)

/-- R186: the index of the first field out of its range; the ranges stand in the order of the fields from index `i` on. R20 and R75 name the first
one; where several fields of another request are out of range, the lowest index is the model's choice (log entry 44). -/
def firstBad (fs : List Word) : Nat → List (Int × Int) → Option Nat
  | _, [] => none
  | i, (lo, hi) :: rest => if inRange lo hi (intAt fs i) then firstBad fs (i + 1) rest else some i

/-! ### The settings groups -/

/-- Section 1.8. The range of sample_period_s is the set 1, 2, 5, 10, checked in `sensorBad`. -/
def sensorRanges : List (Int × Int) :=
  [(1, 10), (3, 600), (0, 30), (0, 4095), (0, 4095), (1, 20000), (0, 20000), (300, 20000), (8, 64), (0, 20),
   (1, 1000000), (1, 2), (0, 1), (1, 600), (10, 2000), (1, 60), (0, 6), (2, 16)]

def sensorBad (fs : List Word) : Option Nat :=
  if [1, 2, 5, 10].contains (intAt fs 0) then firstBad fs 0 sensorRanges else some 0

def parseSensor (fs : List Word) : LmuSettings where
  samplePeriodS := natAt fs 0
  staleS := natAt fs 1
  warmSamples := natAt fs 2
  aZero := natAt fs 3
  aFull := natAt fs 4
  aSpanMm := natAt fs 5
  aOffsetMm := natAt fs 6
  bMountMm := natAt fs 7
  flatWindow := natAt fs 8
  flatBandMm := natAt fs 9
  flatFlowL := natAt fs 10
  primary := if natAt fs 11 = 1 then .a else .b
  revertive := firstAt fs 12
  revertSamples := natAt fs 13
  agreeMm := natAt fs 14
  agreeSamples := natAt fs 15
  smoothK := natAt fs 16
  rateSpan := natAt fs 17

def sensorFields (c : LmuSettings) : List Word :=
  [numField c.samplePeriodS, numField c.staleS, numField c.warmSamples, numField c.aZero, numField c.aFull,
   numField c.aSpanMm, numField c.aOffsetMm, numField c.bMountMm, numField c.flatWindow, numField c.flatBandMm,
   numField c.flatFlowL, numField c.primary.code, twoWay c.revertive, numField c.revertSamples, numField c.agreeMm,
   numField c.agreeSamples, numField c.smoothK, numField c.rateSpan]

/-- R20: the points of a STRAP_SET body, after its count. -/
def parsePoints : List Word → List StrapPoint
  | l :: v :: rest => ⟨l.toInt.toNat, v.toInt.toNat⟩ :: parsePoints rest
  | _ => []

/-- R20, second check: levels strictly increasing, volumes nowhere decreasing. -/
def pointsOrdered : List StrapPoint → Bool
  | p :: q :: rest => decide (p.level < q.level) && decide (p.volume ≤ q.volume) && pointsOrdered (q :: rest)
  | _ => true

/-- R20: the checks of a STRAP_SET body of `bytes` bytes whose whole fields are `fs`. -/
def strapCheck (bytes : Nat) (fs : List Word) : Option Answer :=
  let n := intAt fs 0
  if !inRange 2 16 n || decide (bytes ≠ 4 + 8 * n.toNat) then some (badValue 0)
  else
    match firstBad fs 1 ((List.replicate n.toNat [((0 : Int), (20000 : Int)), (0, 16000000)]).flatten) with
    | some i => some (badValue i)
    | none => if pointsOrdered (parsePoints fs.tail) then none else some inconsistent

def strapFields (t : List StrapPoint) : List Word :=
  numField t.length :: t.flatMap fun p => [numField p.level, numField p.volume]

/-- Section 2.8. -/
def guardRanges : List (Int × Int) :=
  [(100, 20000), (1, 60), (0, 2000), (0, 60), (100, 20000), (1, 30), (1, 30), (0, 1), (10, 1000), (0, 20000), (1, 500),
   (1, 60), (0, 5000), (0, 5000), (0, 1), (0, 1000000)]

def parseGuard (fs : List Word) : GuardSettings where
  warnMm := natAt fs 0
  warnN := natAt fs 1
  warnHystMm := natAt fs 2
  warnExitN := natAt fs 3
  tripMm := natAt fs 4
  tripN := natAt fs 5
  spillN := natAt fs 6
  combine := if natAt fs 7 = 0 then .any else .both
  riseAfterTripMm := natAt fs 8
  rearmMm := natAt fs 9
  passRate := natAt fs 10
  passN := natAt fs 11
  ceilingMarginMm := natAt fs 12
  frostDerateMm := natAt fs 13
  blindFill := firstAt fs 14
  blindMarginL := natAt fs 15

/-- R51, second check. -/
def guardConsistent (c : GuardSettings) : Bool :=
  decide (c.warnMm < c.tripMm) && decide (c.rearmMm < c.warnMm) && decide (c.warnHystMm < c.warnMm) &&
    decide (c.ceilingMarginMm + c.frostDerateMm < c.warnMm)

def guardFields (c : GuardSettings) : List Word :=
  [numField c.warnMm, numField c.warnN, numField c.warnHystMm, numField c.warnExitN, numField c.tripMm, numField c.tripN,
   numField c.spillN, numField c.combine.code, numField c.riseAfterTripMm, numField c.rearmMm, numField c.passRate,
   numField c.passN, numField c.ceilingMarginMm, numField c.frostDerateMm, twoWay c.blindFill, numField c.blindMarginL]

/-- Section 3.8. -/
def valveRanges : List (Int × Int) := [(10, 600), (1, 30), (1, 1000), (10, 600)]

def parseValve (fs : List Word) : ValveSettings := ⟨natAt fs 0, natAt fs 1, natAt fs 2, natAt fs 3⟩

def valveSettingFields (c : ValveSettings) : List Word :=
  [numField c.valveTravelS, numField c.reproveS, numField c.litresPerPulse, numField c.meterStallS]

/-- R146: the four line settings, then the six supply settings. -/
def lineRanges : List (Int × Int) :=
  [(0, 63), (1, 5), (1, 8), (0, 1), (10, 600), (10, 600), (60, 3600), (0, 20000), (0, 1000000), (0, 1000000)]

def parseLine (fs : List Word) : LineSettings :=
  ⟨natAt fs 0, natAt fs 1, natAt fs 2, if natAt fs 3 = 0 then .called else .pressured⟩

def parseSupply (fs : List Word) : SupplySettings :=
  ⟨natAt fs 4, natAt fs 5, natAt fs 6, natAt fs 7, natAt fs 8, natAt fs 9⟩

def lineSettingFields (c : LineSettings) (u : SupplySettings) : List Word :=
  [numField c.lineAddress, numField c.linePeriodS, numField c.persistN, numField c.supplyMode.code, numField u.callWaitS,
   numField u.releaseWaitS, numField u.retryS, numField u.emergencyMm, numField u.standardRefillL, numField u.peakRefillL]

/-- R75: the windows of a TARIFF_SET body, after its count. -/
def parseWindows : List Word → List Window
  | s :: l :: d :: b :: rest =>
    ⟨s.toInt.toNat, l.toInt.toNat, BitVec.ofNat 7 d.toNat, if b.toNat = 1 then .cheap else .peak⟩ :: parseWindows rest
  | _ => []

/-- The occurrences of a window: the minutes of week at which they start (R74). -/
def Window.starts (w : Window) : List Nat :=
  ((List.range 7).filter fun d => w.days.getLsbD d).map fun d => (d * 1440 + w.start) % 10080

/-- Two occurrences share a minute of the week, which wraps. -/
def occurrencesMeet (s1 l1 s2 l2 : Nat) : Bool :=
  decide ((s2 + 10080 - s1) % 10080 < l1) || decide ((s1 + 10080 - s2) % 10080 < l2)

def Window.meets (v w : Window) : Bool :=
  v.starts.any fun a => w.starts.any fun b => occurrencesMeet a v.length b w.length

/-- The first window at index `j` or later that shares a minute with window `v`. -/
def firstMeeting (v : Window) : Nat → List Window → Option Nat
  | _, [] => none
  | j, w :: rest => if v.meets w then some j else firstMeeting v (j + 1) rest

/-- R75: the first two windows found to share a minute, in window order: the least first index, then the least second, the model's choice (log
entry 35). -/
def sharedMinute : Nat → List Window → Option (Nat × Nat)
  | _, [] => none
  | i, w :: rest =>
    match firstMeeting w (i + 1) rest with
    | some j => some (i, j)
    | none => sharedMinute (i + 1) rest

/-- R75: the checks of a TARIFF_SET body. -/
def tariffCheck (bytes : Nat) (fs : List Word) : Option Answer :=
  let n := intAt fs 0
  if !inRange 0 8 n || decide (bytes ≠ 4 + 16 * n.toNat) then some (badValue 0)
  else
    match firstBad fs 1 ((List.replicate n.toNat [((0 : Int), (1439 : Int)), (1, 1440), (1, 127), (1, 2)]).flatten) with
    | some i => some (badValue i)
    | none =>
      match sharedMinute 0 (parseWindows fs.tail) with
      | some (i, j) => some (.refuse .inconsistent [BitVec.ofNat 8 i, BitVec.ofNat 8 j])
      | none => none

def tariffFields (c : List Window) : List Word :=
  numField c.length :: c.flatMap fun w => [numField w.start, numField w.length, numField w.days.toNat, numField w.band.code]

/-- Section 5.6, and forget_rate. -/
def planRanges : List (Int × Int) := [(0, 20000), (0, 16000000), (0, 50), (10, 20000), (0, 1), (0, 240), (0, 1)]

def parsePlan (fs : List Word) : PlanSettings :=
  ⟨natAt fs 0, natAt fs 1, natAt fs 2, natAt fs 3, if natAt fs 4 = 0 then .early else .late, natAt fs 5⟩

def planSettingFields (c : PlanSettings) : List Word :=
  [numField c.floorMm, numField c.defaultDrawL, numField c.marginPct, numField c.qCapLpm, numField c.planStart.code,
   numField c.lateSlackMin]

/-- R163: the ten heating settings, then the three of the Fill Sequencer. -/
def heatRanges : List (Int × Int) :=
  [(-300, 100), (-200, 200), (1, 720), (-100, 200), (0, 20000), (0, 20000), (0, 20000), (0, 1800), (1, 120), (1, 50),
   (0, 240), (1, 72), (1, 1000000)]

def parseHeat (fs : List Word) : HeatSettings :=
  ⟨intAt fs 0, intAt fs 1, natAt fs 2, intAt fs 3, natAt fs 4, natAt fs 5, natAt fs 6, natAt fs 7, natAt fs 8, natAt fs 9⟩

def parseFrostFill (fs : List Word) : FrostFillSettings := ⟨natAt fs 10, natAt fs 11, natAt fs 12⟩

def heatSettingFields (c : HeatSettings) (f : FrostFillSettings) : List Word :=
  [intField c.frostOnT, intField c.frostOffT, numField c.frostPersistMin, intField c.ovfReadyT, numField c.budgetCheapW,
   numField c.budgetStandardW, numField c.budgetPeakW, numField c.minOnS, numField c.confirmMin, numField c.confirmRise,
   numField f.prepareMaxMin, numField f.turnoverH, numField f.turnoverL]

/-- R165: the zone number, then its five settings. -/
def zoneRanges : List (Int × Int) := [(1, 4), (-300, 300), (-300, 300), (0, 6000), (0, 7), (0, 1)]

def parseZone (fs : List Word) : ZoneSettings := ⟨intAt fs 1, intAt fs 2, natAt fs 3, natAt fs 4, firstAt fs 5⟩

def zoneOf (n : Nat) : Zone :=
  match n with
  | 1 => .riser | 2 => .overflow | 3 => .pit | _ => .sensor

/-- Section 9.5. -/
def historyRanges : List (Int × Int) := [(0, 4), (1, 60), (1, 127), (0, 31), (1, 128), (1, 1440)]

def modeOf (n : Nat) : HistoryMode :=
  match n with
  | 0 => .off | 1 => .fill | 2 => .roll | 3 => .rollFreeze | _ => .idleRoll

def parseHistory (fs : List Word) : HistorySettings :=
  ⟨modeOf (natAt fs 0), natAt fs 1, natAt fs 2, BitVec.ofNat 5 (natAt fs 3), natAt fs 4, natAt fs 5⟩

end Sys2Proof.Machine
end

