-- ==== Sys2Proof/Machine/Line.lean ====
section
/-! DEFINITION. The station line below the judging of codes (chapter 7): building and stuffing the frame, the bit receiver, and the
wish and hold request. -/
namespace Sys2Proof.Machine

/-! ### Sending (R129, R130, R131) -/

/-- The flag that opens and closes a frame. -/
def lineFlag : List Bool := [false, true, true, true, true, false]

/-- R129: the eighteen body bits of an address and a code, with their check, each least significant bit first. -/
def bodyBits (address code check : Nat) : List Bool := lsbBits 6 address ++ lsbBits 4 code ++ lsbBits 8 check

/-- R129: the check over the ten address and code bits. -/
def lineCheck (address code : Nat) : BitVec 8 := crc8 (lsbBits 6 address ++ lsbBits 4 code)

/-- R130: a zero after every run of three ones; `ones` is the run so far. -/
def stuff : Nat → List Bool → List Bool
  | _, [] => []
  | ones, true :: rest => if ones = 2 then true :: false :: stuff 0 rest else true :: stuff (ones + 1) rest
  | _, false :: rest => false :: stuff 0 rest

/-- R129: the bits of a frame in the order sent. -/
def lineFrame (address code : Nat) : List Bool :=
  lineFlag ++ stuff 0 (bodyBits address code (lineCheck address code).toNat) ++ lineFlag

/-- R131: the line period timer expires; the frame of the outgoing code is sent. -/
def linePeriod (s : State) : State :=
  s.withSli { s.sli with
    lastSent := some s.sli.outgoing
    lineOut := lineFrame s.cfg.line.lineAddress s.sli.outgoing.code
    periodTimer := s.load s.cfg.line.linePeriodS }

/-! ### Wish and hold request (R132) -/

/-- The Fill Sequencer hands over its wish: CALL or IDLE. -/
def setWish (call : Bool) (s : State) : State := s.withSli { s.sli with wishCall := call }

/-- The Overflow Guard sets the hold request on or off. -/
def setHold (hold : Bool) (s : State) : State := s.withSli { s.sli with holdRequest := hold }

/-! ### Receiving (R133) -/

/-- What a bit or the end of a burst completes at the receiver. -/
inductive LineRxEvent where
  | nothing
  | stuffError
  | frame (bits : List Bool)
  deriving DecidableEq, Repr

/-- R133: the receiver takes one bit. A bit that finds it QUIET starts a burst, but for the rest of a burst that a RESTART found under way
(R147, log entry 40). -/
def LineRx.take (bit : Bool) : LineRx → LineRx × LineRxEvent
  | .quiet => (.hunting [bit], .nothing)
  | .late => (.late, .nothing)
  | .hunting last =>
    let six := (last ++ [bit]).drop (last.length + 1 - 6)
    (if six = lineFlag then .body [] 0 else .hunting six, .nothing)
  | .body bits ones =>
    if bit && decide (ones = 3) then (.discard, .stuffError)
    else
      let bits' := if !bit && decide (ones = 3) then bits else bits ++ [bit]
      let ones' := if bit then ones + 1 else 0
      if bits'.length = 18 then (.trailer bits' (decide (ones' = 3)) [], .nothing) else (.body bits' ones', .nothing)
  | .trailer bits stuffDue taken =>
    if stuffDue then if bit then (.discard, .stuffError) else (.trailer bits false taken, .nothing)
    else
      let taken' := taken ++ [bit]
      if taken' = lineFlag then (.discard, .frame bits)
      else if taken'.isPrefixOf lineFlag then (.trailer bits false taken', .nothing)
      else (.discard, .stuffError)
  | .discard => (.discard, .nothing)

/-- R147: the receiver at a RESTART: QUIET, with the rest of a burst under way taken as no start of one (log entry 40). -/
def LineRx.restart : LineRx → LineRx
  | .quiet => .quiet
  | _ => .late

/-- R133: the burst ends. -/
def LineRx.endBurst : LineRx → LineRxEvent
  | .body _ _ => .stuffError
  | .trailer _ _ _ => .stuffError
  | _ => .nothing

/-- The three parts of the eighteen body bits. -/
def bodyParts (bits : List Bool) : BitVec 6 × BitVec 4 × BitVec 8 :=
  (BitVec.ofNat 6 (ofLsbBits (bits.take 6)), BitVec.ofNat 4 (ofLsbBits ((bits.drop 6).take 4)),
   BitVec.ofNat 8 (ofLsbBits (bits.drop 10)))

/-- R134, step 3: the station codes. -/
def stationCodeOf (code : BitVec 4) : Option StationCode :=
  match code.toNat with
  | 8 => some .ready | 9 => some .running | 10 => some .blocked | 11 => some .isolated | _ => none

/-- R134: the judgement of a completed frame: a station code, or the kind of bad frame. -/
def judgeFrame (working : Nat) (address : BitVec 6) (code : BitVec 4) (check : BitVec 8) : Except LineError StationCode :=
  if lineCheck address.toNat code.toNat ≠ check then .error .check
  else if address.toNat ≠ working then .error .address
  else match stationCodeOf code with
    | none => .error .code
    | some c => .ok c

end Sys2Proof.Machine
end

