-- ==== Sys2Proof/Machine/Recorder.lean ====
section
/-! DEFINITION. Telemetry Recorder (chapter 9): accumulators, entries, the queue and its modes, triggers, collection notices. -/
namespace Sys2Proof.Machine

/-! ### Triggers (R173) -/

inductive Trigger where
  | guardWarn | guardTrip | sourceChange | lineLost | frostEntry
  deriving DecidableEq, Repr

def Trigger.bit : Trigger → Nat
  | .guardWarn => 0 | .guardTrip => 1 | .sourceChange => 2 | .lineLost => 3 | .frostEntry => 4

/-- R173: a selected trigger takes an ARMED queue of ROLL_FREEZE or IDLE_ROLL to TRIGGERED. -/
def Trc.take (c : HistorySettings) (t : Trigger) (r : Trc) : Trc :=
  if c.triggers.getLsbD t.bit && (decide (c.mode = .rollFreeze) || decide (c.mode = .idleRoll)) &&
      decide (r.trigger = .armed)
  then { r with trigger := .triggered } else r

def takeTrigger (t : Trigger) (s : State) : State := s.withTrc (s.trc.take s.cfg.history t)

/-- R173: the trigger that a change of guard state gives, if any. -/
def guardTrigger (old new : GuardState) : Option Trigger :=
  if old = new then none
  else match new with
    | .warn => if old = .clear then some .guardWarn else none
    | .tripped | .isolate => some .guardTrip
    | _ => none

/-- The Overflow Guard hands over a change of guard state. -/
def recordGuardChange (old new : GuardState) (s : State) : State :=
  match guardTrigger old new with
  | some t => takeTrigger t s
  | none => s

/-! ### The watermark and the collect timer (R175, R176) -/

/-- R175: the notice of a count at or above the watermark while the mark is clear. -/
def judgeWatermark (s : State) : State :=
  let r := s.trc
  let c := s.cfg.history
  if c.watermark ≤ r.queue.length then
    if r.watermarkMark then s
    else (s.withTrc { r with watermarkMark := true }).raise .historyWatermark
      [numField r.queue.length, numField c.mode.code, numField r.trigger.code, numField r.overrun]
  else s

/-- R175, R176: the mark and the timer after a read or a flush. -/
def Trc.settle (watermark : Nat) (r : Trc) : Trc :=
  { r with
    watermarkMark := if r.queue.length < watermark then false else r.watermarkMark
    collectTimer := if r.queue.isEmpty then none else r.collectTimer }

/-! ### Placing an entry (R170, R172, R174) -/

def Trc.countOverrun (r : Trc) (n : Nat) : Trc := { r with overrun := min 65535 (r.overrun + n) }

/-- The oldest `n` entries are dropped, each counted. -/
def Trc.dropOldest (r : Trc) (n : Nat) : Trc := { r.countOverrun n with queue := r.queue.drop n }

/-- R170, R176: an entry takes the next number and joins at the newest end. A join that finds the queue empty loads the collect timer, also where
the drops of the same build have emptied it: the model's choice (log entry 45). -/
def Trc.join (collect : Timer) (e : Entry) (r : Trc) : Trc :=
  { r with
    queue := r.queue ++ [{ e with sequence := r.nextSequence }]
    nextSequence := r.nextSequence + 1
    collectTimer := if r.queue.isEmpty then collect else r.collectTimer }

/-- R172: what becomes of an entry, by mode, trigger state and count: whether it joins, and the recorder after it.
`collect` is the collect timer as a join into an empty queue loads it. Two cells are not in the table and cannot occur: ROLL_FREEZE TRIGGERED with
128 entries discards as FROZEN does, and IDLE_ROLL FROZEN rolls (log entry 26). -/
def Trc.place (c : HistorySettings) (collect : Timer) (e : Entry) (r : Trc) : Bool × Trc :=
  let full := decide (128 ≤ r.queue.length)
  match c.mode, r.trigger with
  | .off, _ => (false, r)
  | .fill, _ => if full then (false, r.countOverrun 1) else (true, r.join collect e)
  | .roll, _ => (true, if full then (r.dropOldest 1).join collect e else r.join collect e)
  | .rollFreeze, .armed => (true, (r.dropOldest (r.queue.length - (c.pre - 1))).join collect e)
  | .rollFreeze, .triggered =>
    if full then (false, r.countOverrun 1)
    else
      let r' := r.join collect e
      (true, if r'.queue.length = 128 then { r' with trigger := .frozen } else r')
  | .rollFreeze, .frozen => (false, r.countOverrun 1)
  | .idleRoll, .armed => (false, r)
  | .idleRoll, _ => (true, if full then (r.dropOldest 1).join collect e else r.join collect e)

/-! ### The sample (R168, R169) -/

/-- R169: the entry of a completed interval; it takes its number when it joins. -/
def buildEntry (s : State) : Entry :=
  let x := s.lmu.sample
  { uptime := x.uptime, sequence := 0, activeLevel := x.activeLevel, smoothed := x.smoothed, rate := x.rate,
    guardPeak := s.trc.guardPeak, inflow := s.ifm.intervalTally, source := x.active, guardState := s.ofg.state,
    band := s.tck.band, valve := s.ivd.state, swap := s.trc.swapMark, disagree := s.trc.disagreeMark,
    blind := s.trc.blindMark, test := s.trc.testMark, frost := s.fhc.season.reportedIn, clockUnset := s.tck.time.isNone }

/-- R169: the build: the entry is formed, the interval tally and the accumulators start afresh, and the entry is placed. A join that
freezes the queue does so before the watermark is judged, so the notice carries FROZEN: the model's choice (log entry 38). -/
def buildHistory (s : State) : State :=
  let e := buildEntry s
  let r := { s.trc with
    sampleCount := 0, guardPeak := none, swapMark := false, disagreeMark := false, blindMark := false, testMark := false }
  let (joined, r') := r.place s.cfg.history (s.load (s.cfg.history.collectMin * 60)) e
  let s' := (s.withIfm { s.ifm with intervalTally := 0 }).withTrc r'
  if joined then judgeWatermark s' else s'

/-- R168, steps 1 to 3: the accumulators take a sample. -/
def Trc.accumulate (x : SampleRecord) (testing : Bool) (r : Trc) : Trc :=
  { r with
    sampleCount := r.sampleCount + 1
    guardPeak := match x.guardLevel, r.guardPeak with
      | some g, some p => some (max g p)
      | some g, none => some g
      | none, p => p
    swapMark := r.swapMark || x.swap
    disagreeMark := r.disagreeMark || x.disagree
    blindMark := r.blindMark || x.guardLevel.isNone
    testMark := r.testMark || testing }

/-- R168: the Telemetry Recorder takes the sample record. -/
def recorderSample (s : State) : State :=
  let s := s.withTrc (s.trc.accumulate s.lmu.sample s.ofg.test.isSome)
  let s := if s.lmu.sample.swap then takeTrigger .sourceChange s else s
  if s.cfg.history.every ≤ s.trc.sampleCount then buildHistory s else s

/-! ### Reading and flushing (R177 to R180) -/

/-- R179: the flush. -/
def Trc.flush (r : Trc) : Trc :=
  { r with queue := [], overrun := 0, trigger := .armed, watermarkMark := false, collectTimer := none }

def natHalf (n : Nat) : BitVec 16 := BitVec.ofNat 16 n
def levelHalf (o : Option Nat) : BitVec 16 := (o.map natHalf).getD 0xFFFF#16
def signedHalf (o : Option Int) : BitVec 16 := (o.map (BitVec.ofInt 16)).getD 0x8000#16
def byteOf (n : Nat) : Byte := BitVec.ofNat 8 n

def Entry.flags (e : Entry) : Byte :=
  byteOf (ofLsbBits [e.swap, e.disagree, e.blind, e.test, e.frost, e.clockUnset])

/-- Section 10.7: an entry in FULL form. -/
def Entry.fullBytes (e : Entry) : List Byte :=
  wordBytes e.uptime ++ halfBytes e.sequence ++ halfBytes (levelHalf e.activeLevel) ++ halfBytes (levelHalf e.smoothed) ++
  halfBytes (signedHalf e.rate) ++ halfBytes (levelHalf e.guardPeak) ++ wordBytes (numField e.inflow) ++
  [byteOf (sourceCode e.source), byteOf e.guardState.code, byteOf e.band.code, byteOf e.valve.code, e.flags]

/-- R178: the entries in BRIEF form, each with the seconds since the one before it, saturating. -/
def briefBytes (before : Word) : List Entry → List Byte
  | [] => []
  | e :: rest =>
    halfBytes e.sequence ++ halfBytes (natHalf (min 65535 (elapsed e.uptime before))) ++ halfBytes (levelHalf e.activeLevel) ++
      e.flags :: briefBytes e.uptime rest

/-- R177: the entries that a read returns: up to the clamped count, within the limit of the form. -/
def readCount (n : Int) (full : Bool) : Nat := min (clamp 1 16 n).toNat (if full then 8 else 16)

/-- R178: the uptime of the first entry returned. -/
def baseUptime (taken : List Entry) : Word := (taken.head?.map Entry.uptime).getD Config.emptyBase

/-- R177, step 2: the acceptance body. -/
def readBody (full : Bool) (taken : List Entry) (left overrun : Nat) : List Byte :=
  [if full then 0 else 1, byteOf taken.length, byteOf left] ++ halfBytes (natHalf overrun) ++
  (if full then taken.flatMap Entry.fullBytes
   else wordBytes (baseUptime taken) ++ briefBytes (baseUptime taken) taken)

/-- R176: the collect timer expires. -/
def collectExpiry (s : State) : State :=
  match s.trc.collectTimer with
  | none => s
  | some _ =>
    (s.withTrc { s.trc with collectTimer := none }).raise .historyStale
      [numField s.trc.queue.length, optWord (s.trc.queue.head?.map Entry.uptime), numField s.trc.overrun]

/-- R180: an accepted HISTORY_SET; a change of mode flushes before the new mode is in force. -/
def historyChange (new : HistorySettings) (s : State) : State :=
  let s := if new.mode ≠ s.cfg.history.mode then s.withTrc s.trc.flush else s
  let changed := decide (new.watermark ≠ s.cfg.history.watermark)
  let s := s.withSst { s.sst with working := { s.sst.working with history := new } }
  if changed then
    if s.trc.queue.length < new.watermark then s.withTrc { s.trc with watermarkMark := false } else judgeWatermark s
  else s

end Sys2Proof.Machine
end

