-- ==== Sys2Proof/Machine/Frost.lean ====
section
/-! DEFINITION. Frost Heating Controller (chapter 8): zone need, boosts, the power arbitration and its grant, heater proving, season
counts. What changes the overflow path stands in Overflow.lean. -/
namespace Sys2Proof.Machine

def setZone (z : Zone) (r : ZoneRec) (s : State) : State := s.withFhc { s.fhc with zones := s.fhc.zones.put z r }

/-- The reading of the record of the same name as a zone, while valid (R154). -/
def State.zoneReading (s : State) (z : Zone) : Option Int := (s.fhc.temps.get (zonePort z)).reading

/-! ### Need (R154) -/

/-- R154: the need judged from a reading. -/
def needOf (c : ZoneSettings) (reading : Option Int) (reportedIn before : Bool) : Bool :=
  match reading with
  | none => reportedIn
  | some v => if v ≤ c.onT then true else if c.offT ≤ v then false else before

/-- A zone's need as it would be judged now. -/
def State.needNow (s : State) (z : Zone) : Bool :=
  needOf (s.cfg.zones.get z) (s.zoneReading z) s.fhc.season.reportedIn (s.fhc.zones.get z).need

/-- Judges the need of the zones for which `which` holds, without a run. -/
def judgeNeeds (which : Zone → Bool) (s : State) : State :=
  s.withFhc { s.fhc with zones := s.fhc.zones.map fun z r => if which z then { r with need := s.needNow z } else r }

/-! ### Arbitration (R157 to R160) -/

/-- R158: zones in effective priority order, highest first, the lower number first on ties. -/
def State.byPriority (s : State) (zs : List Zone) : List Zone :=
  sortBy (fun z => 11 - effPriority (s.cfg.zones.get z) (s.fhc.zones.get z)) zs

/-- R158, step 1. -/
def State.candidates (s : State) : List Zone :=
  if s.heatCut then []
  else allZones.filter fun z =>
    (s.cfg.zones.get z).enabled && (s.fhc.zones.get z).need && decide ((s.fhc.zones.get z).state ≠ .fault)

/-- R158: zones in order, each granted if its power fits in the budget left; what is granted and what is left. -/
def grantFrom (power : Zone → Nat) : List Zone → Nat → List Zone × Nat
  | [], left => ([], left)
  | z :: zs, left =>
    if power z ≤ left then
      let (granted, rest) := grantFrom power zs (left - power z)
      (z :: granted, rest)
    else grantFrom power zs left

/-- R157: the budget in force is lower than at the previous run since the start. -/
def State.budgetFall (s : State) : Bool :=
  match s.fhc.lastBudget with
  | some b => decide (s.budget < b)
  | none => false

/-- R158, step 2: ON with the min-on timer running. -/
def State.isProtected (s : State) (z : Zone) : Bool :=
  decide ((s.fhc.zones.get z).state = .on) && (s.fhc.zones.get z).minOn.isSome

/-- R158: the zones granted by a run. -/
def State.grant (s : State) : List Zone :=
  let candidates := s.candidates
  let guarded := if s.budgetFall then [] else candidates.filter s.isProtected
  let others := candidates.filter fun z => !guarded.contains z
  let power := fun z => (s.cfg.zones.get z).powerW
  let (first, left) := grantFrom power (s.byPriority guarded) s.budget
  first ++ (grantFrom power (s.byPriority others) left).1

/-- R159: a zone leaves ON. -/
def ZoneRec.leaveOn (r : ZoneRec) (state : ZoneState) : ZoneRec :=
  if r.state = .on then { r with state := state, minOn := none, confirm := none, proof := none } else { r with state := state }

/-- R159 to R161: a zone switches ON. -/
def State.switchOn (s : State) (z : Zone) (r : ZoneRec) : ZoneRec :=
  { r with
    state := .on, onSince := some s.now, onTemp := s.zoneReading z,
    minOn := if s.cfg.heat.minOnS = 0 then none else s.load s.cfg.heat.minOnS,
    confirm := s.load (s.cfg.heat.confirmMin * 60), proof := some .pending }

/-- R159: the result of a run for one zone. -/
def State.applyGrant (s : State) (z : Zone) (r : ZoneRec) : ZoneRec :=
  if s.grant.contains z then if r.state = .on then r else s.switchOn z r
  else if s.candidates.contains z then r.leaveOn .want
  else if r.state = .fault then r
  else if (s.cfg.zones.get z).enabled then r.leaveOn .off
  else r.leaveOn .disabled

/-- R157 to R159: one run of the arbitration. Before the start hold ends no run is taken. -/
def powerRun (s : State) : State :=
  if s.fhc.startHold then s
  else s.withFhc { s.fhc with zones := s.fhc.zones.map s.applyGrant, lastBudget := some s.budget }

/-- Judges needs and takes a run if one has changed (R154). Before the start hold ends no need is judged (R157). -/
def reviewNeeds (which : Zone → Bool) (s : State) : State :=
  if s.fhc.startHold then s
  else
    let s' := judgeNeeds which s
    if allZones.any fun z => (s'.fhc.zones.get z).need != (s.fhc.zones.get z).need then powerRun s' else s'

/-- R157: the end of the start hold. -/
def endHold (s : State) : State :=
  if s.fhc.startHold then
    powerRun (judgeNeeds (fun _ => true) (s.withFhc { s.fhc with startHold := false, startTimer := none }))
  else s

/-! ### Boosts (R155) -/

def setBoost (z : Zone) (boost : Bool) (s : State) : State :=
  if (s.fhc.zones.get z).boost = boost then s
  else powerRun (setZone z { s.fhc.zones.get z with boost := boost } s)

/-- The Frost Heating Controller takes a sample record. -/
def heatingSample (s : State) : State := setBoost .sensor (decide (s.lmu.sample.healthB = .suspectFlat)) s

/-- The Frost Heating Controller takes a change of sequence state. -/
def heatingSequence (s : State) : State := setBoost .overflow (decide (s.fsq.seq = .prepare)) s

/-! ### Timers of a zone (R160, R161) -/

/-- R160: a min-on expiry. -/
def minOnExpiry (z : Zone) (s : State) : State :=
  let r := s.fhc.zones.get z
  if r.minOn.isSome then powerRun (setZone z { r with minOn := none } s) else s

/-- R161: the judgement of a heater at its confirm expiry. -/
def proofOf (c : ZoneSettings) (rise : Nat) (onTemp reading : Option Int) : Proof :=
  match onTemp, reading with
  | some t, some v => if t + rise ≤ v ∨ c.offT ≤ v then .proven else .failed
  | _, _ => .unjudged

/-- R161: a confirm expiry with the zone still ON. -/
def confirmExpiry (z : Zone) (s : State) : State :=
  let r := s.fhc.zones.get z
  if r.confirm.isSome ∧ r.state = .on then
    let reading := s.zoneReading z
    match proofOf (s.cfg.zones.get z) s.cfg.heat.confirmRise r.onTemp reading with
    | .failed =>
      let s := setZone z { r with state := .fault, minOn := none, confirm := none, proof := some .failed } s
      powerRun (s.raise .zone [0, numField (zoneNumber z), optInt r.onTemp, optInt reading,
        intField (reading.getD 0 - r.onTemp.getD 0)])
    | p => setZone z { r with confirm := none, proof := some p } s
  else s

/-- R162: a zone in FAULT is cleared. That the notice CLEARED names the zone in a second field is the model's choice (log entry 12). -/
def clearZone (z : Zone) (s : State) : State :=
  let r := s.fhc.zones.get z
  if r.state = .fault then
    let state := if (s.cfg.zones.get z).enabled then ZoneState.off else .disabled
    let s := setZone z { r with state := state, proof := none, onTemp := none } s
    powerRun (s.raise .zone [1, numField (zoneNumber z)])
  else s

/-- R165: what an accepted ZONE_SET does after the settings are replaced. -/
def zoneChange (z : Zone) (s : State) : State :=
  let s := if s.fhc.startHold then s else judgeNeeds (fun x => decide (x = z)) s
  let r := s.fhc.zones.get z
  let enabled := (s.cfg.zones.get z).enabled
  let r' := if r.state = .fault then r
    else if enabled then if r.state = .disabled then { r with state := .off } else r
    else r.leaveOn .disabled
  powerRun (setZone z r' s)

/-! ### The season (R150, R151) -/

/-- R150: the three counts after a season step. -/
def seasonCounts (c : HeatSettings) (ambient : Option Int) (f : Fhc) : Fhc :=
  let up := fun n => min 720 (n + 1)
  match ambient with
  | none => f
  | some v =>
    { f with
      cold := if v ≤ c.frostOnT then up f.cold else 0
      warm := if c.frostOffT ≤ v then up f.warm else 0
      valid := up f.valid }

/-- R151: the new season state. -/
def seasonNext (persist : Nat) (f : Fhc) : Season :=
  match f.season with
  | .out => if persist ≤ f.cold then .inSeason else .out
  | .inSeason => if persist ≤ f.warm then .out else .inSeason
  | .unknown => if persist ≤ f.warm then .out else if persist ≤ f.valid then .inSeason else .unknown

/-- R152: whether the overflow path is PROVEN as judged now. -/
def State.pathNow (s : State) : Bool :=
  if s.fhc.season.reportedIn then
    match s.fhc.temps.overflow.reading with
    | some v => decide (s.cfg.heat.ovfReadyT ≤ v)
    | none => false
  else true

end Sys2Proof.Machine
end

