-- ==== Sys2Proof/Machine/Rest.lean ====
section
/-! DEFINITION. Hand-overs that end in one block: meter stall supervision, the Fill Planner's fill events, and the Settings Store's judgement
of rest (R68, R99, R100, R199). -/
namespace Sys2Proof.Machine

/-! ### Stall supervision (R68) -/

/-- R68: arming is judged afresh. -/
def judgeArm (s : State) : State :=
  let m := s.ifm
  if s.armable = m.armed then s
  else if s.armable then
    s.withIfm { m with armed := true, stallTimer := if m.stall then none else s.load s.cfg.valve.meterStallS }
  else s.withIfm { m with armed := false, stallTimer := none }

/-! ### Learned rate (R99, R100) -/

/-- R99: the fill-open event sets or clears the stall mark. -/
def plannerFillOpen (s : State) : State := s.withFpl { s.fpl with stallMark := s.ifm.stall }

/-- R100: the learned rate after a measured rate. -/
def learnRate (learned : Option Nat) (measured : Nat) : Nat :=
  match learned with
  | none => measured
  | some r => (3 * r + measured) / 4

/-- R100: the fill-close event, with the fill tally and the seconds in FILLING. -/
def plannerFillClose (tally seconds : Nat) (s : State) : State :=
  let minutes := seconds / 60
  let measured := min 20000 (tally / minutes)
  if s.fpl.stallMark = true ∨ minutes < 10 ∨ measured = 0 then s
  else
    let rate := learnRate s.fpl.learned measured
    let s' := s.withFpl { s.fpl with learned := some rate }
    if s.fpl.learned = some rate then s'
    else s'.raise .plan [6, optNum s.fpl.learned, numField measured, numField rate]

/-! ### Rest (R199) -/

/-- The image state: VALID 0, INVALID 1 (R193). -/
def imageCode (valid : Bool) : Word := if valid then 0 else 1

/-- R196: the PART_STATE notice of a power-on: the state started in, an absent old state, the image state. -/
def startNotice (s : State) : State :=
  s.raise .partState [numField s.sst.part.code, absentField, imageCode s.sst.imageValid]

/-- R197: the PART_STATE notice of a restart: the old state, the new state, the image state. -/
def restartNotice (old : PartState) (s : State) : State :=
  s.raise .partState [numField old.code, numField s.sst.part.code, imageCode s.sst.imageValid]

/-- R196, R198 to R200: the PART_STATE notice of any other change: the old and the new state. -/
def partNotice (old : PartState) (s : State) : State := s.raise .partState [numField old.code, numField s.sst.part.code]

/-- R199: the part is at rest. -/
def State.atRest (s : State) : Bool :=
  decide (s.fsq.seq = .idle) && (decide (s.ivd.state = .closed) || s.ivd.state.isFault)

/-- R199: a QUIESCING part found at rest becomes QUIET. Of the receivers of that change only the Frost Heating Controller acts on it: the Fill
Sequencer and the Overflow Guard act on a part that leaves or enters RUNNING (R50, R111, R123). -/
def judgeRest (s : State) : State :=
  if s.sst.part = .quiescing ∧ s.atRest = true then
    powerRun (partNotice .quiescing (s.withSst { s.sst with part := .quiet }))
  else s

/-- R54: the Inflow Meter's and the Settings Store's taking of a valve event; the Fill Sequencer's and the Overflow Guard's stand with
those blocks. -/
def storeSequence (b : Block) (s : State) : State :=
  match b with
  | .fhc => heatingSequence s
  | .sst => judgeRest s
  | _ => s

/-- Section 6.2: a change of the sequence state, handed at once to the Frost Heating Controller and the Settings Store. The Overflow Guard
only reads it, at its next sample (R44). -/
def enterSeq (q : SeqState) (s : State) : State :=
  (s.withFsq { s.fsq with seq := q }).handTo [.fhc, .sst] storeSequence

end Sys2Proof.Machine
end

