-- ==== Sys2Proof/Machine/Valve.lean ====
section
/-! DEFINITION. Inlet Valve Driver (sections 3.1 to 3.5): commands, arrivals, loss of position, watchdog, re-prove, fault record. Each
operation answers the state and the events it hands over, in order (R54). -/
namespace Sys2Proof.Machine

/-- What the driver hands over: a change of state other than to FAULT, a fault report, a re-prove completion. -/
inductive ValveEvent where
  | moved (state : ValveState)
  | fault (cause : FaultCause)
  | reproved
  deriving DecidableEq, Repr

/-- R56: the reason of a refused open command. -/
inductive OpenRefusal where
  | forceClose | fault
  deriving DecidableEq, Repr

/-- R63: the fault record with a cause noted at an uptime. -/
def FaultRecord.note (f : FaultRecord) (c : FaultCause) (now : Word) : FaultRecord :=
  let f := { f with count := min 255 (f.count + 1) }
  match c with
  | .openTimeout => { f with openTimeout := some now }
  | .closeTimeout => { f with closeTimeout := some now }
  | .bothLimits => { f with bothLimits := some now }
  | .passing => { f with passing := some now }

def noteFault (c : FaultCause) (s : State) : State := s.withIvd { s.ivd with faults := s.ivd.faults.note c s.now }

/-- The watchdog as it is loaded now. -/
def State.travel (s : State) : Timer := s.load s.cfg.valve.valveTravelS

/-- A travel to the closed end begins or begins afresh. -/
def startClosing (s : State) : State :=
  s.withIvd { s.ivd with state := .closing, drive := .closing, watchdog := s.travel }

/-- An arrival at CLOSED, or CLOSED found at once. -/
def arriveClosed (s : State) : State :=
  s.withIvd { s.ivd with state := .closed, drive := .idle, watchdog := none }

/-- R59: an arrival at CLOSED from FAULT. RECOVERED comes before the notices that the receivers of the arrival raise, an order of the model's choice
(log entry 24). -/
def recoverClosed (c : FaultCause) (s : State) : State :=
  (arriveClosed s).raise .valve [1, numField c.code]

/-! ### Commands (R56, R57) -/

/-- R56: an open command: the reason it is refused with (none when it is accepted), the state, and the events. -/
def valveOpen (s : State) : Option OpenRefusal × State × List ValveEvent :=
  let v := s.ivd
  if v.forceClose then (some .forceClose, s, [])
  else match v.state with
    | .fault _ => (some .fault, s, [])
    | .closed | .closing =>
      (none, s.withIvd { v with state := .opening, drive := .opening, watchdog := s.travel, reprove := none }, [.moved .opening])
    | .opening | .opened | .unknown => (none, s, [])

/-- R57: a close command, accepted in every state. -/
def valveClose (s : State) : State × List ValveEvent :=
  let v := s.ivd
  match v.state with
  | .closed => (s.withIvd { v with drive := .closing, reprove := s.load s.cfg.valve.reproveS }, [])
  | .opening | .opened => (startClosing s, [.moved .closing])
  | .closing => (s, [])
  | .unknown =>
    if v.pattern = .closedOnly then (arriveClosed s, [.moved .closed]) else (startClosing s, [.moved .closing])
  | .fault c =>
    if v.drive = .closing then (s, [])
    else if v.pattern = .closedOnly then (recoverClosed c s, [.moved .closed])
    else (s.withIvd { v with drive := .closing, watchdog := s.travel }, [])

/-! ### Limit changes (R55, R58, R59, R61) -/

/-- R55: a change to BOTH, in every state. -/
def bothLimits (s : State) : State × List ValveEvent :=
  let s := (noteFault .bothLimits s).raise .valve [0, numField FaultCause.bothLimits.code]
  (s.withIvd { s.ivd with
    state := .fault .bothLimits, drive := .closing, watchdog := s.travel, reprove := none }, [.fault .bothLimits])

/-- R61: a valve at rest loses its proving limit: UNKNOWN, and the driver's own close from there. `limit` is the limit that LIMIT_LOST names,
0 for the open and 1 for the closed one: the model's choice (log entry 34). -/
def loseLimit (limit : Word) (s : State) : State × List ValveEvent :=
  let s := s.raise .valve [2, limit]
  let (s', events) := valveClose (s.withIvd { s.ivd with state := .unknown })
  (s', .moved .unknown :: events)

/-- R55: a change at the limit inputs replaces the held pattern and is judged against the state. LIMIT_LOST names the closed limit also where it
ends a re-prove (R58), as R61 has it: the model's choice (log entry 34). -/
def valveLimits (p : LimitPattern) (s : State) : State × List ValveEvent :=
  let before := s.ivd.pattern
  if p = before then (s, [])
  else
    let s := s.withIvd { s.ivd with pattern := p }
    if p = .both then bothLimits s
    else match s.ivd.state with
      | .opening =>
        if p = .openOnly then
          (s.withIvd { s.ivd with state := .opened, drive := .idle, watchdog := none }, [.moved .opened])
        else (s, [])
      | .closing => if p = .closedOnly then (arriveClosed s, [.moved .closed]) else (s, [])
      | .fault c => if p = .closedOnly then (recoverClosed c s, [.moved .closed]) else (s, [])
      | .closed =>
        if before = .closedOnly then
          if s.ivd.reprove.isSome then
            let s := startClosing (s.withIvd { s.ivd with reprove := none })
            (s.raise .valve [2, 1], [.moved .closing])
          else loseLimit 1 s
        else (s, [])
      | .opened => if before = .openOnly then loseLimit 0 s else (s, [])
      | .unknown => (s, [])

/-! ### Timers (R58, R60) -/

/-- R60: the watchdog expires. -/
def watchdogExpiry (s : State) : State × List ValveEvent :=
  if s.ivd.watchdog.isNone then (s, [])
  else match s.ivd.state with
    | .opening =>
      let s := (noteFault .openTimeout s).raise .valve [0, numField FaultCause.openTimeout.code]
      (s.withIvd { s.ivd with state := .fault .openTimeout, drive := .closing, watchdog := s.travel }, [.fault .openTimeout])
    | .closing | .fault _ =>
      let s := (noteFault .closeTimeout s).raise .valve [0, numField FaultCause.closeTimeout.code]
      (s.withIvd { s.ivd with state := .fault .closeTimeout, drive := .idle, watchdog := none }, [.fault .closeTimeout])
    | .closed | .opened | .unknown => (s.withIvd { s.ivd with watchdog := none }, [])

/-- R58: the re-prove timer expires; the completion is handed over with the pattern CLOSED_ONLY. With another pattern, which R58 excludes, the
timer and the drive stop and nothing is handed over (log entry 26). -/
def reproveExpiry (s : State) : State × List ValveEvent :=
  if s.ivd.reprove.isNone then (s, [])
  else
    (s.withIvd { s.ivd with drive := .idle, reprove := none },
      if s.ivd.pattern = .closedOnly then [.reproved] else [])

/-! ### Start and clearing (R64, R65) -/

/-- R65: the start of the valve with the pattern as the inputs show it. -/
def valveStart (p : LimitPattern) (latched : Bool) (s : State) : State × List ValveEvent :=
  let s := s.withIvd { state := .unknown, pattern := p, forceClose := latched }
  match p with
  | .closedOnly => (arriveClosed s, [])
  | .openOnly => valveClose (s.withIvd { s.ivd with state := .opened })
  | .neither => valveClose s
  | .both => bothLimits s

end Sys2Proof.Machine
end

