-- ==== Sys2Proof/Machine/Escalation.lean ====
section
/-! DEFINITION. The Overflow Guard's taking of valve events (R40, R42, R49), and the hand-over of a valve event to all of its receivers
(R54). -/
namespace Sys2Proof.Machine

/-- R26, R38: a GUARD_CHANGE notice for a guard that stood in `old`; the marker LEVEL_UNCONFIRMED is a sixth field. Raised between samples (R40,
R43) it carries the guard level of the latest sample record, the model's choice (log entry 41). -/
def noticeGuard (old : GuardState) (unconfirmed : Bool) (s : State) : State :=
  let g := s.ofg
  s.raise .guardChange
    ([numField old.code, numField g.state.code, optNum s.lmu.sample.guardLevel,
      if g.state.latched then numField (tripCauseCode g.tripCause) else 0,
      if g.state = .isolate then optNum (g.escalation.map Escalation.code) else absentField] ++
      if unconfirmed then [1] else [])

/-- A change of guard state: the record, the Telemetry Recorder's trigger (R173), and GUARD_CHANGE. -/
def moveGuard (new : GuardState) (s : State) : State :=
  let old := s.ofg.state
  noticeGuard old false (recordGuardChange old new (s.withOfg { s.ofg with state := new }))

/-- R42: entry to ISOLATE from TRIPPED. -/
def escalate (cause : Escalation) (s : State) : State :=
  setHold true (moveGuard .isolate (s.withOfg { s.ofg with escalation := some cause }))

/-- R49: a pending close result of a running test takes what the valve reports. -/
def testReport (r : CloseResult) (s : State) : State :=
  match s.ofg.test with
  | some t => if t.closeResult = .pending then s.withOfg { s.ofg with test := some { t with closeResult := r } } else s
  | none => s

/-- R40, R49: the Overflow Guard takes a valve event. A close fault is one of cause CLOSE_TIMEOUT or BOTH_LIMITS. -/
def guardValve (e : ValveEvent) (s : State) : State :=
  match e with
  | .moved .closed => testReport .proven s
  | .reproved => testReport .proven s
  | .fault .closeTimeout | .fault .bothLimits =>
    let s := testReport .fault s
    if s.ofg.state = .tripped then escalate .closeFault s else s
  | _ => s

/-- Whether an event is a change of valve state; a re-prove completion is not. -/
def ValveEvent.isChange : ValveEvent → Bool
  | .reproved => false
  | _ => true

/-- R54: one receiver takes a valve event; `sequencer` is the Fill Sequencer's taking. -/
def takeValveEvent (sequencer : ValveEvent → State → State) (e : ValveEvent) (b : Block) (s : State) : State :=
  match b with
  | .fsq => sequencer e s
  | .ofg => guardValve e s
  | .ifm => if e.isChange then judgeArm s else s
  | .sst => if e.isChange then judgeRest s else s
  | _ => s

/-- R54: valve events are handed over, each to every receiver before the next. -/
def handValveEvents (sequencer : ValveEvent → State → State) (es : List ValveEvent) (s : State) : State :=
  es.foldl (fun t e => t.handTo [.fsq, .ofg, .ifm, .sst] (takeValveEvent sequencer e)) s

end Sys2Proof.Machine
end

