-- ==== Sys2Proof/Machine/Sequence.lean ====
section
/-! DEFINITION. Fill Sequencer (chapter 6): the demand table, the start check, the sequence of a fill and its end, the fill record. -/
namespace Sys2Proof.Machine

def setSeqRow (k : Kind) (r : Row) (s : State) : State := s.withFsq { s.fsq with rows := s.fsq.rows.setRow k r }

/-- The open fill record is changed. -/
def onFill (g : FillRecord → FillRecord) (s : State) : State := s.withFsq { s.fsq with fill := s.fsq.fill.map g }

/-- A fill is running and its end cause is not recorded yet. -/
def State.fillOn (s : State) : Bool :=
  match s.fsq.fill with
  | some f => s.fillRunning && f.cause.isNone
  | none => false

/-- Every target is capped at the ceiling volume in force (R103). -/
def State.cap (s : State) (target : Nat) : Nat := min target (s.ofg.ceilingVolume.getD target)

/-- R103: a raised row: its target, raised uptime and attempts 0. -/
def State.newRow (s : State) (target : Nat) : Row := { active := true, target := s.cap target, raised := some s.now, attempts := 0 }

def dropRow (k : Kind) (s : State) : State := setSeqRow k { s.fsq.rows.row k with active := false } s

/-- R103: the running fill goes on toward the working target, and its record takes the working kind (log entry 20). -/
def retarget (s : State) : State :=
  if s.fillOn then
    match s.working with
    | some (k, target) => onFill (fun f => { f with finalKind := k, targetEnd := target }) s
    | none => s
  else s

/-! ### The close of a record (R109, R121, R122) -/

def FillRecord.finalKindField (f : FillRecord) : Word := if f.finalKind = f.kind then absentField else numField f.finalKind.code

def FillRecord.flagMask (f : FillRecord) : Word :=
  numField (ofLsbBits [f.ceilingCut, f.continued, f.tripped, f.prepareExpired, f.releaseTimeout, f.meterStall])

/-- R109: the attempts of the row named by the fill's working kind, at the close of the record of a failed fill. -/
def countAttempt (k : Kind) (cause : EndCause) (s : State) : State :=
  let r := s.fsq.rows.row k
  if r.active then
    let r' := { r with attempts := r.attempts + 1 }
    if r'.attempts < 3 then setSeqRow k r' s
    else
      let s := setSeqRow k { r' with active := false } s
      let s := s.withFsq { s.fsq with floorAbandoned := s.fsq.floorAbandoned || decide (k = .floor) }
      s.raise .demandAbandoned [numField k.code, numField r.target, numField cause.code]
  else s

/-- R122: what a failed fill does at its close: the retry timer and the attempts. -/
def judgeFailure (f : FillRecord) (s : State) : State :=
  match f.cause with
  | some c =>
    if c.failed then
      countAttempt f.finalKind c (s.withFsq { s.fsq with retryTimer := s.load s.cfg.supply.retryS })
    else s
  | none => s

/-- R121, steps 1 to 7 without the start check. -/
def closeRecord (s : State) : State :=
  match s.fsq.fill with
  | none => enterSeq .idle s
  | some f =>
    let f := { f with tally := s.ifm.fillTally.getD 0, vEnd := s.vNow, endUptime := some s.now }
    let s := s.withIfm { s.ifm with fillTally := none }
    let s := s.withFsq { s.fsq with fill := none, journal := push 8 s.fsq.journal f }
    let s := plannerFillClose f.tally f.fillingSeconds s
    let s := s.raise .fillEnd
      [numField f.kind.code, f.finalKindField, optNum (f.cause.map EndCause.code), numField f.tally, optNum f.vStart,
       optNum f.vEnd, f.flagMask]
    let s := if s.cfg.frostFill.turnoverL ≤ f.tally then
      s.withFsq { s.fsq with turnoverTimer := s.load (s.cfg.frostFill.turnoverH * 3600) } else s
    enterSeq .idle (judgeFailure f s)

/-- R121: a valve fault in CLOSING replaces the cause. -/
def faultRecord (f : FillRecord) : FillRecord := { f with cause := some .valveFault, prior := f.cause }

/-- R121: the Fill Sequencer takes a valve event in CLOSING. -/
def closingValve (e : ValveEvent) (s : State) : State :=
  if s.fsq.seq = .closing then
    match e with
    | .moved .closed => closeRecord s
    | .reproved => closeRecord s
    | .fault _ => closeRecord (onFill faultRecord s)
    | .moved _ => s
  else s

/-- The Fill Sequencer enters CLOSING and commands the valve closed. -/
def closeValve (s : State) : State :=
  let (s, es) := valveClose (enterSeq .closing s)
  handValveEvents closingValve es s

/-- R116: the cause, the uptime, and the seconds in FILLING of a fill that ends. Until then the open record holds 0 seconds in FILLING, the
model's choice (log entry 36). -/
def recordEnd (cause : EndCause) (s : State) : State :=
  onFill (fun f =>
    { f with
      cause := some cause, endUptime := some s.now,
      fillingSeconds := if s.fsq.seq = .filling then elapsed s.now (f.fillingAt.getD s.now) else f.fillingSeconds }) s

/-! ### The start of a fill (R111 to R113) -/

/-- R113: entry to OPENING. -/
def enterOpening (s : State) : State :=
  let (refusal, s, es) := valveOpen (enterSeq .opening s)
  if refusal.isNone then handValveEvents (fun _ t => t) es s
  else closeValve (recordEnd .valveFault s)

/-- R112: entry to PREPARE, judged at once. -/
def enterPrepare (s : State) : State :=
  let s := enterSeq .prepare s
  if s.fhc.pathProven then enterOpening s
  else if s.cfg.frostFill.prepareMaxMin = 0 then enterOpening (onFill (fun f => { f with prepareExpired := true }) s)
  else s.withFsq { s.fsq with prepareTimer := s.load (s.cfg.frostFill.prepareMaxMin * 60) }

/-- R111: the conditions of a start, apart from the working target. -/
def State.mayStart (s : State) : Bool :=
  decide (s.fsq.seq = .idle) && s.ofg.granted && decide (s.ivd.state = .closed) && s.ivd.faults.isEmpty &&
    decide (s.sst.part = .running) && s.ofg.test.isNone && !s.fsq.hold && s.fsq.retryTimer.isNone

/-- R111, steps 1 to 5. -/
def startFill (k : Kind) (target : Nat) (s : State) : State :=
  let f : FillRecord :=
    { start := s.now, kind := k, finalKind := k, mode := s.cfg.line.supplyMode, targetStart := target, targetEnd := target,
      planned := if k = .night then s.fsq.rows.night.planned else none, vStart := s.vNow }
  let s := (s.withFsq { s.fsq with fill := some f }).withIfm { s.ifm with fillTally := some 0 }
  let s := (plannerFillOpen s).raise .fillStart [numField k.code, numField target, optNum f.vStart]
  enterPrepare s

/-- R111: the start check. -/
def startCheck (s : State) : State :=
  if s.mayStart then
    match s.working with
    | some (k, target) => startFill k target s
    | none => s
  else s

/-! ### The end of a fill (R116, R119, R120) -/

/-- Entry to CLOSING from a released or reversed fill. The start check belongs to a record that closes in the same event. -/
def enterClosing (s : State) : State := startCheck (closeValve s)

/-- R120: the supply mode in the open record. -/
def State.fillCalled (s : State) : Bool :=
  match s.fsq.fill with
  | some f => decide (f.mode = .called)
  | none => false

/-- R120: entry to RELEASING. -/
def enterReleasing (s : State) : State :=
  let s := setWish false (enterSeq .releasing s)
  if s.fillCalled && decide (s.sli.accepted = some .running) then
    s.withFsq { s.fsq with releaseTimer := s.load s.cfg.supply.releaseWaitS }
  else enterClosing s

/-- R116: a fill ends with a cause; an ending fill is not ended again. -/
def endFill (cause : EndCause) (s : State) : State :=
  if s.fillOn then
    let s := recordEnd cause s
    match s.fsq.seq with
    | .prepare => startCheck (closeRecord (s.withFsq { s.fsq with prepareTimer := none }))
    | .opening => enterClosing s
    | .calling | .filling => enterReleasing (s.withFsq { s.fsq with callTimer := none })
    | .idle | .releasing | .closing => s
  else s

/-- R116: rows have been removed by an event whose cause is given: the fill ends, or goes on toward the new target. -/
def rowsRemoved (cause : EndCause) (s : State) : State :=
  if s.fillOn && s.working.isNone then endFill cause s else retarget s

/-- A row is raised: the working target follows, and the start check is applied. -/
def raiseRow (k : Kind) (r : Row) (s : State) : State := startCheck (retarget (setSeqRow k r s))

/-! ### CALLING and FILLING (R114, R115) -/

def enterFilling (s : State) : State :=
  enterSeq .filling (onFill (fun f => { f with fillingAt := some s.now }) (s.withFsq { s.fsq with callTimer := none }))

def enterCalling (s : State) : State :=
  let s := enterSeq .calling s
  if s.fillCalled then
    let s := setWish true (s.withFsq { s.fsq with callTimer := s.load s.cfg.supply.callWaitS })
    if s.sli.accepted = some .running then enterFilling s else s
  else enterFilling s

/-- The wait of RELEASING ends. -/
def endRelease (s : State) : State := enterClosing (s.withFsq { s.fsq with releaseTimer := none })

/-- R114, R115, R120: a change of the accepted station code is handed over. -/
def sequenceCode (code : StationCode) (s : State) : State :=
  match s.fsq.seq with
  | .calling =>
    match code with
    | .running => enterFilling s
    | .blocked => endFill .stationBlocked s
    | .ready | .isolated => s
  | .filling => if s.fillCalled && decide (code ≠ .running) then endFill .stationStopped s else s
  | .releasing => if code = .running then s else endRelease s
  | _ => s

/-- R114, R115, R120: the line becomes LOST. -/
def sequenceLost (s : State) : State :=
  match s.fsq.seq with
  | .calling => endFill .line s
  | .filling => if s.fillCalled then endFill .line s else s
  | .releasing => endRelease s
  | _ => s

/-! ### Valve events, permission, trip (R113, R117, R118) -/

/-- R117: an event that hands over a valve outside the expected states. -/
def ValveEvent.leaves (expected : List ValveState) : ValveEvent → Bool
  | .moved v => !expected.contains v
  | .fault _ => true
  | .reproved => false

/-- The Fill Sequencer takes a valve event. -/
def sequenceValve (e : ValveEvent) (s : State) : State :=
  match s.fsq.seq with
  | .idle =>
    match e with
    | .moved .closed => startCheck s
    | .reproved => startCheck s
    | _ => s
  | .prepare => if e.leaves [.closed] then endFill .valveFault s else s
  | .opening =>
    if e = .moved .opened then enterCalling s
    else if e.leaves [.opening] then endFill .valveFault s else s
  | .calling | .filling => if e.leaves [.opened] then endFill .valveFault s else s
  | .releasing => s
  | .closing => startCheck (closingValve e s)

/-- Valve events of the driver, handed to the four receivers. -/
def deliverValve (r : State × List ValveEvent) : State := handValveEvents sequenceValve r.2 r.1

/-- R47: the end cause that a reason of withdrawal gives. -/
def WithdrawReason.endCause : WithdrawReason → EndCause
  | .trip => .guard | .warn => .guardWarn | .noCeiling => .guardWarn | .blind => .blindBudget

/-- R47: a change of fill permission is handed over, with its reason on withdrawal. -/
def sequencePermission (withdrawn : Option WithdrawReason) (s : State) : State :=
  match withdrawn with
  | some reason => endFill reason.endCause s
  | none => startCheck s

/-- R118: a trip of the guard reaches the Fill Sequencer, which issues no close. -/
def sequenceTrip (s : State) : State :=
  let flag := onFill fun f => { f with tripped := true }
  match s.fsq.seq with
  | .idle => s
  | .prepare => endFill .guard s
  | .opening | .calling | .filling =>
    let s := recordEnd .guard s
    enterSeq .closing (setWish false (s.withFsq { s.fsq with callTimer := none }))
  | .releasing => enterSeq .closing (flag (s.withFsq { s.fsq with releaseTimer := none }))
  | .closing => flag s

/-! ### The sample (R106, R110) -/

/-- R109: a row is removed if it is active and its target is at or below a volume. -/
def dropIfReached (v : Nat) (s : State) (k : Kind) : State :=
  if (s.fsq.rows.row k).active && decide ((s.fsq.rows.row k).target ≤ v) then dropRow k s else s

/-- R109: every active row at or below a volume is removed. -/
def dropReached (v : Nat) (s : State) : State := Kind.all.foldl (dropIfReached v) s

/-- R110, steps 1 and 2. -/
def stopCheck (s : State) : State :=
  match s.vNow with
  | none => s
  | some v =>
    let s := dropReached v s
    match s.working with
    | none => rowsRemoved .target s
    | some (_, target) => if target ≤ v then endFill .target s else retarget s

/-- R106: the threshold and the target of the floor in the present band. -/
def State.floorAim (s : State) : Option (Band × Nat × Nat) :=
  let u := s.cfg.supply
  if s.tck.band = .peak then (volumeAt s.cfg.strap u.emergencyMm).map fun v => (.peak, v, v + u.peakRefillL)
  else (volumeAt s.cfg.strap s.cfg.plan.floorMm).map fun v => (.standard, v, v + u.standardRefillL)

/-- R106, R110 step 3: the floor is judged. -/
def floorCheck (s : State) : State :=
  match s.vNow, s.floorAim with
  | some v, some (band, threshold, target) =>
    if !s.fsq.rows.floor.active && !s.fsq.floorAbandoned && s.ofg.ceilingVolume.isSome && decide (v < threshold) then
      retarget (setSeqRow .floor { s.newRow target with floorBand := some band } s)
    else s
  | _, _ => s

/-- R110: the Fill Sequencer takes a sample. -/
def sequenceSample (s : State) : State := startCheck (floorCheck (stopCheck s))

/-! ### Demands and removals (R104, R107, R108, R109) -/

/-- R104: a night demand is handed over. -/
def nightDemand (target planned : Nat) (s : State) : State :=
  if s.ofg.ceilingVolume.isSome then raiseRow .night { s.newRow target with planned := some planned } s else s

/-- R97, R98, R109: the top-up allowance is spent or discarded. -/
def topupOver (cause : EndCause) (s : State) : State :=
  if s.fsq.rows.topup.active then rowsRemoved cause (dropRow .topup s) else s

/-- R108: the MANUAL row for a level whose volume is given. -/
def manualDemand (level volume : Nat) (s : State) : State :=
  if s.ofg.ceilingVolume.isSome then raiseRow .manual { s.newRow volume with level := some level } s else s

/-- R108: the cancel form of FILL_NOW. -/
def manualCancel (s : State) : State := rowsRemoved .host (dropRow .manual s)

/-- R107: the turnover timer expires. -/
def turnoverExpiry (s : State) : State :=
  let s := s.withFsq { s.fsq with turnoverTimer := s.load (s.cfg.frostFill.turnoverH * 3600) }
  if s.fhc.season.reportedIn then
    let most := s.cfg.frostFill.turnoverL
    match s.ofg.ceilingVolume, s.vNow with
    | some c, some v =>
      if ((most / 2 : Nat) : Int) ≤ (c : Int) - v then raiseRow .turnover (s.newRow (v + most)) s
      else s.raise .turnoverBlocked [intField ((c : Int) - v), numField most]
    | _, _ => s.raise .turnoverBlocked [absentField, numField most]
  else s

/-- R30: an active row's target is at most the ceiling volume. -/
def cutRow (ceiling : Nat) (s : State) (k : Kind) : State :=
  let r := s.fsq.rows.row k
  if r.active then setSeqRow k { r with target := min r.target ceiling } s else s

/-- R30: the working target of a running fill exceeds a ceiling volume. -/
def State.fillOver (s : State) (ceiling : Nat) : Bool :=
  match s.working with
  | some (_, target) => s.fillRunning && decide (ceiling < target)
  | none => false

/-- R30: a lowered ceiling volume cuts the targets. -/
def sequenceCut (ceiling : Nat) (s : State) : State :=
  let t := Kind.all.foldl (cutRow ceiling) s
  retarget
    (if s.fillOver ceiling then onFill (fun f => { f with ceilingCut := true, targetEnd := min f.targetEnd ceiling }) t else t)

/-! ### Holds, timers, path, stall (R112, R114, R115, R120, R122, R123) -/

/-- R123: FILL_HOLD. -/
def setHostHold (on : Bool) (s : State) : State :=
  let s := s.withFsq { s.fsq with hold := on }
  if on then endFill .host s else startCheck s

/-- R123: a change of part state is handed over. -/
def sequencePart (new : PartState) (s : State) : State := if new = .running then startCheck s else endFill .quiesce s

/-- R112: the wait of PREPARE is on. -/
def State.waitsInPrepare (s : State) : Bool := decide (s.fsq.seq = .prepare) && s.fsq.prepareTimer.isSome

/-- R112: the prepare timer expires. -/
def prepareExpiry (s : State) : State :=
  if s.waitsInPrepare then
    enterOpening (onFill (fun f => { f with prepareExpired := true }) (s.withFsq { s.fsq with prepareTimer := none }))
  else s

/-- R112: the overflow path becomes PROVEN. -/
def sequencePath (s : State) : State :=
  if s.fhc.pathProven && s.waitsInPrepare then enterOpening (s.withFsq { s.fsq with prepareTimer := none }) else s

/-- R114: the call timer expires. -/
def callExpiry (s : State) : State :=
  if s.fsq.seq = .calling ∧ s.fsq.callTimer.isSome = true then endFill .callTimeout s else s

/-- R120: the wait of RELEASING is on. -/
def State.waitsInRelease (s : State) : Bool := decide (s.fsq.seq = .releasing) && s.fsq.releaseTimer.isSome

/-- R120: the release timer expires. -/
def releaseExpiry (s : State) : State :=
  if s.waitsInRelease then endRelease (onFill (fun f => { f with releaseTimeout := true }) s) else s

/-- R122: the retry timer expires. -/
def retryExpiry (s : State) : State :=
  if s.fsq.retryTimer.isSome then startCheck (s.withFsq { s.fsq with retryTimer := none }) else s

/-- R115: the METER_STALL flag is set during the fill. -/
def sequenceStall (s : State) : State := onFill (fun f => { f with meterStall := true }) s

/-! ### Band changes (R105, R124) -/

/-- R124, step 2: the FLOOR row at a band change. -/
def floorBand (old new : Band) (s : State) : State :=
  let r := s.fsq.rows.floor
  let u := s.cfg.supply
  let s := s.withFsq { s.fsq with floorAbandoned := false }
  if !r.active then s
  else if new = .peak then
    match s.vNow, volumeAt s.cfg.strap u.emergencyMm with
    | some v, some e =>
      if v < e then setSeqRow .floor { r with target := s.cap (e + u.peakRefillL), floorBand := some .peak } s
      else dropRow .floor s
    | _, _ => s
  else if old = .peak ∧ r.floorBand = some .peak then
    let target := match volumeAt s.cfg.strap s.cfg.plan.floorMm with
      | some v => max r.target (s.cap (v + u.standardRefillL))
      | none => r.target
    setSeqRow .floor { r with target := target, floorBand := some .standard } s
  else s

/-- R105: the top-up is judged at a change from CHEAP to STANDARD. -/
def topupBand (old new : Band) (s : State) : State :=
  if old = .cheap ∧ new = .standard then
    match s.fpl.plan.bind Plan.figures, s.vNow, s.ofg.ceilingVolume with
    | some p, some v, some c =>
      let target := min (min p.vTarget (v + p.shortfall)) c
      if 0 < p.shortfall ∧ v < target then setSeqRow .topup (s.newRow target) s else s
    | _, _, _ => s
  else s

/-- R124, step 5: a running fill continues or ends. -/
def continueFill (old : Band) (s : State) : State :=
  if s.fillOn then
    match s.working with
    | none => endFill .windowEnd s
    | some (k, _) =>
      retarget (onFill (fun f =>
        { f with continued := f.continued || (decide (old = .cheap) && decide (f.finalKind = .night) && decide (k = .topup)) }) s)
  else s

/-- R124: the Fill Sequencer takes a band change. -/
def sequenceBand (old new : Band) (s : State) : State :=
  let s := if new ≠ .cheap then dropRow .night s else s
  let s := if new ≠ .standard then dropRow .topup s else s
  startCheck (continueFill old (topupBand old new (floorBand old new s)))

end Sys2Proof.Machine
end

