-- ==== Sys2Proof/Machine/Guard.lean ====
section
/-! DEFINITION. Overflow Guard (chapter 2): the ceiling, fill permission, the trip, the judging of each sample, the guard test, the release
of the latch. -/
namespace Sys2Proof.Machine

/-! ### Permission and ceiling (R28 to R30, R46, R47) -/

/-- R46, R47: permission is re-evaluated, and a change is handed to the Fill Sequencer. -/
def judgePermission (s : State) : State :=
  let w := withdrawal s.cfg.ofg.blindFill s.ofg
  let before := s.ofg.granted
  let s := s.withOfg { s.ofg with granted := w.isNone, reason := w.getD s.ofg.reason }
  if before = w.isNone then s else sequencePermission w s

/-- R30: the new ceiling volume is lower than the old. -/
def cutBelow (old new : Option Nat) (s : State) : State :=
  match old, new with
  | some o, some n => if n < o then sequenceCut n s else s
  | _, _ => s

/-- R29: the ceiling is recomputed. -/
def recomputeCeiling (s : State) : State :=
  let mm := ceilingOf s.cfg.ofg s.fhc.pathProven
  let volume := volumeAt s.cfg.strap mm
  let old := s.ofg.ceilingVolume
  if mm = s.ofg.ceilingMm ∧ volume = old then s
  else judgePermission (cutBelow old volume (s.withOfg { s.ofg with ceilingMm := mm, ceilingVolume := volume }))

/-! ### The end of a guard test (R50) -/

def TestRecord.fields (t : TestRecord) : List Word :=
  [numField t.result.code, numField t.offset, numField t.count, numField t.samplesRun, numField t.highest.code,
   numField t.needed, numField t.closeResult.code]

/-- R50: a running test ends with a result; the Fill Sequencer applies its start check (R111). -/
def endTest (result : TestResult) (s : State) : State :=
  match s.ofg.test with
  | none => s
  | some t =>
    let r : TestRecord := ⟨result, t.offset, t.count, t.samplesRun, t.highest, t.needed, t.closeResult⟩
    startCheck ((s.withOfg { s.ofg with test := none, lastTest := some r }).raise .guardTestDone r.fields)

/-! ### The trip (R39, R45) -/

/-- R39: the stage counts, all 0. -/
def Ofg.zeroCounts (g : Ofg) : Ofg :=
  { g with
    warnCount := 0, exitCount := 0, tripLevelCount := 0, spillCount := 0, passCount := 0, levelEst := false, spillEst := false }

/-- R39: the guard trips. With an escalation cause it enters ISOLATE in the same event (R45). The order inside the trip is that of log
entry 15. -/
def trip (cause : TripCause) (isolate : Option Escalation) (s : State) : State :=
  let old := s.ofg.state
  let new := if isolate.isSome then GuardState.isolate else .tripped
  let granted := s.ofg.granted
  let s := s.withOfg { s.ofg.zeroCounts with
    state := new, tripCause := some cause, tripRef := s.lmu.sample.guardLevel, escalation := isolate,
    tripUptime := some s.now, granted := false, reason := .trip }
  let s := sequenceTrip s
  let s := deliverValve (valveClose (s.withIvd { s.ivd with forceClose := true }))
  let s := if granted then sequencePermission (some .trip) s else s
  let s := endTest .aborted s
  let s := noticeGuard old false (recordGuardChange old new s)
  if isolate.isSome then setHold true s else s

/-! ### The sample (R31) -/

/-- R32: the blind budget at BLIND entry. -/
def blindBudget (margin : Nat) (g : Ofg) : Nat :=
  match g.ceilingVolume, g.vLast with
  | some c, some v => c - v - margin
  | _, _ => 0

/-- R31, step 1 (R32, R34). -/
def guardSight (s : State) : State :=
  let x := s.lmu.sample
  let g := { s.ofg with blindFlag := x.guardLevel.isNone, vLast := x.guardVolume.or s.ofg.vLast }
  let quiet := { g with warnCount := 0, exitCount := 0, tripLevelCount := 0, passCount := 0 }
  if x.guardLevel.isNone then
    match g.state with
    | .clear | .warn => moveGuard .blind (s.withOfg { quiet with budget := blindBudget s.cfg.ofg.blindMarginL g })
    | _ => s.withOfg g
  else
    match g.state with
    | .blind => moveGuard .clear (s.withOfg quiet)
    | _ => s.withOfg g

/-- A stage count: up by one while its condition holds, at most to its threshold, else 0 (section 2.4). -/
def stageCount (threshold : Nat) (holds : Bool) (n : Nat) : Nat := if holds then (if n < threshold then n + 1 else n) else 0

/-- The guard level at a sample is present and satisfies a condition. -/
def levelIs (level : Option Nat) (p : Nat → Bool) : Bool :=
  match level with
  | some g => p g
  | none => false

/-- R31, step 2 (R35 to R37). -/
def Ofg.count (c : GuardSettings) (level : Option Nat) (g : Ofg) : Ofg :=
  let judged := !g.state.latched
  { g with
    warnCount := stageCount c.warnN
      ((decide (g.state = .clear) || decide (g.state = .warn)) && levelIs level fun x => decide (c.warnMm ≤ x)) g.warnCount
    exitCount := stageCount c.warnExitN
      (decide (g.state = .warn) && levelIs level fun x => decide (x < c.warnMm - c.warnHystMm)) g.exitCount
    tripLevelCount := stageCount c.tripN (judged && levelIs level fun x => decide (c.tripMm ≤ x)) g.tripLevelCount
    spillCount := stageCount c.spillN (judged && decide (g.heldSpill = .asserted)) g.spillCount }

/-- R38: the trip cause that the established conditions give, if they give one. In the two cells that R38 says cannot occur, BOTH without sight
and the level established, it answers as with sight (log entry 26). -/
def tripJudgement (combine : Combine) (sight level spill : Bool) : Option TripCause :=
  match level, spill with
  | true, true => some .both
  | true, false => if combine = .any then some .level else none
  | false, true => if combine = .any ∨ sight = false then some .spill else none
  | false, false => none

/-- R38: what a sample announces under combine BOTH when it does not trip. -/
def announce (newLevel newSpill : Bool) (s : State) : State :=
  if newLevel then
    let old := s.ofg.state
    let s := if old = .clear then s.withOfg { s.ofg with state := .warn, exitCount := 0 } else s
    noticeGuard old true (recordGuardChange old s.ofg.state s)
  else if newSpill then s.raise .spillUnconfirmed []
  else s

/-- R35, R36: the warn stages. The exit count is 0 in every state but WARN. -/
def warnStages (s : State) : State :=
  let c := s.cfg.ofg
  let g := s.ofg
  match g.state with
  | .clear => if c.warnN ≤ g.warnCount then moveGuard .warn (s.withOfg { g with exitCount := 0 }) else s
  | .warn =>
    let below := levelIs s.lmu.sample.guardLevel fun x => decide (x < c.warnMm - c.warnHystMm)
    if below && decide (c.warnExitN ≤ g.exitCount) then moveGuard .clear (s.withOfg { g with warnCount := 0, exitCount := 0 }) else s
  | _ => s

/-- R31, steps 3 and 4. A condition is announced when it is established and was not at the sample before; so one that a raised threshold had
ended is announced again though its count has not been 0 in between, the model's choice between R37 and R38 (log entry 18). -/
def guardStages (s : State) : State :=
  let c := s.cfg.ofg
  let g := s.ofg
  if g.state.latched then s
  else
    let level := decide (c.tripN ≤ g.tripLevelCount)
    let spill := decide (c.spillN ≤ g.spillCount)
    match tripJudgement c.combine s.lmu.sample.guardLevel.isSome level spill with
    | some cause => trip cause none s
    | none =>
      let s := s.withOfg { g with levelEst := level, spillEst := spill }
      warnStages (announce (level && !g.levelEst) (spill && !g.spillEst) s)

/-- R31, step 5 (R41), for a guard that was TRIPPED before this sample. -/
def guardRise (s : State) : State :=
  match s.lmu.sample.guardLevel, s.ofg.tripRef with
  | some x, none => s.withOfg { s.ofg with tripRef := some x }
  | some x, some ref => if ref + s.cfg.ofg.riseAfterTripMm < x then escalate .rise s else s
  | none, _ => s

/-- R44: the pass count at a sample, with the valve CLOSED and the sequence IDLE as `still` says. -/
def passCountAt (c : GuardSettings) (still : Bool) (rate : Option Int) (g : Ofg) : Nat :=
  if g.state = .blind then 0
  else match rate with
    | none => g.passCount
    | some r => stageCount c.passN (still && decide ((c.passRate : Int) < r)) g.passCount

/-- R45: a passing valve is found. -/
def foundPassing (s : State) : State :=
  let s := if s.ivd.faults.passing.isSome then s
    else noteFault .passing (s.raise .valve [4, optInt s.lmu.sample.rate])
  match s.ofg.state with
  | .warn => trip .passing (some .passing) s
  | .tripped => escalate .passing s
  | _ => s

/-- R31, step 6 (R44, R45). -/
def guardPassing (still : Bool) (s : State) : State :=
  let c := s.cfg.ofg
  let n := passCountAt c still s.lmu.sample.rate s.ofg
  if s.ofg.state ≠ .blind ∧ c.passN ≤ n then foundPassing (s.withOfg { s.ofg with passCount := 0 })
  else s.withOfg { s.ofg with passCount := n }

/-! ### The guard test (R48 to R50) -/

/-- R49: the copy after one sample of guard level `level`. -/
def GuardTest.step (c : GuardSettings) (level : Option Nat) (t : GuardTest) : GuardTest :=
  let run := t.samplesRun + 1
  let warn := stageCount c.warnN (levelIs level fun x => decide (c.warnMm ≤ x + t.offset)) t.warnCount
  let trips := stageCount c.tripN (levelIs level fun x => decide (c.tripMm ≤ x + t.offset)) t.tripCount
  let t := { t with samplesRun := run, warnCount := warn, tripCount := trips }
  let t := if c.warnN ≤ warn ∧ t.highest = .clear then { t with highest := .warn, needed := run } else t
  if c.tripN ≤ trips ∧ t.highest ≠ .trip then { t with highest := .trip, needed := run, closeResult := .pending } else t

/-- R31, step 7, for a guard that stood in `before` when the sample was taken. -/
def guardTestStep (before : GuardState) (s : State) : State :=
  match s.ofg.test with
  | none => s
  | some t =>
    if s.ofg.state ≠ before then endTest .aborted s
    else
      let t' := t.step s.cfg.ofg s.lmu.sample.guardLevel
      let s := s.withOfg { s.ofg with test := some t' }
      let s := if t.highest ≠ .trip ∧ t'.highest = .trip then deliverValve (valveClose s) else s
      if t.count ≤ t'.samplesRun then endTest .complete s else s

/-- R31: the Overflow Guard takes a sample. A trip at this sample leaves the pass count for the next one (R44). -/
def guardSample (s : State) : State :=
  let still := decide (s.ivd.state = .closed) && decide (s.fsq.seq = .idle)
  let before := s.ofg.state
  let s := guardSight s
  let s := s.withOfg (s.ofg.count s.cfg.ofg s.lmu.sample.guardLevel)
  let s := guardStages s
  let s := if before = .tripped then guardRise s else s
  let s := if s.ofg.state.latched ∧ before.latched = false then s else guardPassing still s
  judgePermission (guardTestStep before s)

/-! ### Pulses and requests (R33, R43, R48, R51) -/

/-- R33: the guard record after a pulse of `lpp` litres. -/
def Ofg.pulse (lpp : Nat) (g : Ofg) : Ofg := { g with budget := if g.state = .blind then g.budget - lpp else g.budget }

/-- R33: a pulse brings the blind budget to 0. -/
def State.spendsBudget (s : State) : Bool :=
  decide (s.ofg.state = .blind) && decide (0 < s.ofg.budget) && decide (s.ofg.budget ≤ s.cfg.valve.litresPerPulse)

/-- R27: a change of the spill switch replaces the held state. -/
def spillChange (p : SpillState) (s : State) : State := s.withOfg { s.ofg with heldSpill := p }

/-- R43: the release of the latch. -/
def releaseLatch (s : State) : State :=
  let g := s.ofg
  let prev : PrevTrip := ⟨g.tripCause, g.tripRef, g.escalation, g.tripUptime⟩
  let s := s.withOfg { g.zeroCounts with
    tripCause := none, tripRef := none, escalation := none, tripUptime := none, prevTrip := some prev }
  let s := setHold false (s.withIvd { s.ivd with forceClose := false })
  judgePermission (moveGuard .clear s)

/-- R43: the judgement of GUARD_CLEAR. -/
def guardClear (s : State) : Answer × State :=
  if s.ofg.state.latched then
    match s.lmu.sample.guardLevel with
    | none => (.refuse .noSight [], s)
    | some g =>
      if s.cfg.ofg.rearmMm ≤ g then (.refuse .levelHigh (halfBytes (natHalf g)), s)
      else (acceptEmpty, releaseLatch s)
  else (badState, s)

/-- R48: the conditions of a guard test. -/
def State.mayTest (s : State) : Bool :=
  decide (s.ofg.state = .clear) && s.ofg.test.isNone && decide (s.ivd.state = .closed) && decide (s.fsq.seq = .idle) &&
    decide (s.sst.part = .running)

/-- R48: GUARD_TEST. The record of the last test is dropped as the new one starts: the model's reading (log entry 19). -/
def guardTestStart (fs : List Word) (s : State) : Answer × State :=
  match firstBad fs 0 [(100, 5000), (1, 60)] with
  | some i => (badValue i, s)
  | none =>
    if s.mayTest then
      (acceptEmpty, s.withOfg { s.ofg with test := some { offset := natAt fs 0, count := natAt fs 1 }, lastTest := none })
    else (badState, s)

/-- R51: what an accepted GUARD_SET does after the settings are replaced. -/
def guardChange (s : State) : State := endTest .aborted (judgePermission (recomputeCeiling s))

/-- R50: the part state is handed over. -/
def guardPart (new : PartState) (s : State) : State := if new = .running then s else endTest .aborted s

end Sys2Proof.Machine
end

