-- ==== Sys2Proof/Machine/Planner.lean ====
section
/-! DEFINITION. Fill Planner (chapter 5): day records, the forecast, the night plan and its start, the top-up allowance, the learned rate. -/
namespace Sys2Proof.Machine

/-! ### Day records (R83 to R86) -/

/-- R83: a record opens, and the Inflow Meter's day tally is set to 0. -/
def openDay (day : Option Nat) (by_ : OpenedBy) (s : State) : State :=
  let d : DayRecord := { day := day, openedBy := by_, vStart := s.vNow, partialDay := decide (by_ = .start) }
  (s.withFpl { s.fpl with openDay := d }).withIfm { s.ifm with dayPulses := 0 }

/-- R84, step 2: the draw of a day; a day whose volumes rise by more than the inflow draws 0. -/
def drawOf (inflow : Nat) (vStart vEnd : Option Nat) : Option Nat :=
  match vStart, vEnd with
  | some a, some b => some (inflow + a - b)
  | _, _ => none

/-- R84: the closed record, read at a midnight. -/
def State.closedDay (s : State) : ClosedDay :=
  let d := s.fpl.openDay
  let draw := drawOf s.dayLitres d.vStart s.vNow
  ⟨{ d with noVolume := d.noVolume || draw.isNone }, s.vNow, s.dayLitres, draw⟩

/-- R84, R85: the midnight event. -/
def midnight (day : Nat) (s : State) : State :=
  openDay (some day) .midnight (s.withFpl { s.fpl with ring := push 7 s.fpl.ring s.closedDay })

/-- R86: the clock-set event. -/
def clockAdjusted (day : Nat) (s : State) : State :=
  s.withFpl { s.fpl with openDay := { s.fpl.openDay with day := some day, adjusted := true } }

/-! ### The forecast (R88) -/

def ClosedDay.usable (d : ClosedDay) : Bool := !(d.opening.partialDay || d.opening.adjusted || d.opening.noVolume)

/-- The forecast: n, D and F. -/
structure Forecast where
  n : Nat
  d : Nat
  f : Nat
  deriving DecidableEq, Repr

def forecast (c : PlanSettings) (ring : List ClosedDay) : Forecast :=
  let usable := ring.filter ClosedDay.usable
  let n := usable.length
  let d := (usable.map fun x => x.draw.getD 0).sum
  let f0 := if n = 0 then c.defaultDrawL else ceilDiv d n
  ⟨n, d, min 16000000 (ceilDiv (f0 * (100 + c.marginPct)) 100)⟩

/-! ### The top-up allowance (R96 to R98) -/

/-- R98: a discard. -/
def discardAllowance (s : State) : State :=
  match s.fpl.allowance with
  | none => s
  | some a => topupOver .windowEnd ((s.withFpl { s.fpl with allowance := none }).raise .plan [5, numField a])

/-- R96: the shortfall of the plan becomes the allowance. -/
def setAllowance (s : State) : State :=
  match s.fpl.plan.bind Plan.figures with
  | some p =>
    if 0 < p.shortfall then
      (s.withFpl { s.fpl with allowance := some p.shortfall }).raise .plan [3, numField p.shortfall]
    else s
  | none => s

/-- R97: a fill is running and the working kind (R103) is TOPUP. -/
def State.topupRuns (s : State) : Bool := s.fillRunning && decide (s.working.map Prod.fst = some .topup)

/-- R97: the Fill Planner's record after a pulse of `lpp` litres, while a TOPUP fill runs or not. -/
def Fpl.pulse (lpp : Nat) (topup : Bool) (p : Fpl) : Fpl :=
  { p with allowance := p.allowance.map fun a => if topup then a - lpp else a }

/-- R97: a pulse brings the allowance to 0. -/
def State.spendsAllowance (s : State) : Bool :=
  s.topupRuns && match s.fpl.allowance with
    | some a => decide (0 < a) && decide (a ≤ s.cfg.valve.litresPerPulse)
    | none => false

/-- R97: the allowance is spent. -/
def allowanceSpent (s : State) : State := topupOver .allowanceSpent (s.raise .plan [4])

/-! ### The plan (R89 to R94) -/

/-- R90: V_now; where the sample has no volume yet, its level converted under the table in force (log entry 17). -/
def State.planVolume (s : State) (x : SampleRecord) : Nat :=
  let level := if x.disagree then x.guardLevel else x.smoothed
  ((x.planningVolume).or (level.bind (volumeAt s.cfg.strap))).getD 0

/-- R90, R91: the inputs and results of a plan that looks at the sample record `x`. -/
def State.planFigures (s : State) (x : SampleRecord) : PlanFigures :=
  let c := s.cfg.plan
  let table := s.cfg.strap
  let vNow := s.planVolume x
  let vFloor := (volumeAt table c.floorMm).getD 0
  let vCeil := s.ofg.ceilingVolume.getD 0
  let w := s.runLeft.getD 0
  let q := s.fpl.learned.getD c.qCapLpm
  let k := forecast c s.fpl.ring
  let vWant := vFloor + k.f
  let vTarget := min vWant vCeil
  let need := vTarget - vNow
  let capacity := q * w
  let planned := min need capacity
  { vNow := vNow, vFloor := vFloor, vCeil := vCeil, w := w, qEff := q, n := k.n, d := k.d, f := k.f, vWant := vWant,
    vTarget := vTarget, targetLevel := levelAt table vTarget, need := need, capacity := capacity, planned := planned,
    shortfall := need - planned, minutes := ceilDiv planned q }

def Plan.flagMask (p : Plan) : Word :=
  numField (ofLsbBits [p.noSight, p.noTable, p.ceilingLimited, p.disagree, p.rateDefault, p.forecastDefault])

/-- R89, R92: the PLAN notice MADE: the flag alone for a plan that ends at step 3 of R89, else the flags, the results and the start state. -/
def noticePlan (p : Plan) (s : State) : State :=
  s.raise .plan ([0, p.flagMask] ++
    match p.figures with
    | none => []
    | some f =>
      [numField f.vTarget, optNum f.targetLevel, numField f.planned, numField f.shortfall, numField f.minutes,
       numField p.startState.code])

/-- R94: the late condition at a run remaining. -/
def Plan.lateNow (p : Plan) (f : PlanFigures) (runLeft : Nat) : Bool := decide (runLeft ≤ f.minutes + p.lateSlackMin.getD 0)

/-- R93, R94: the start state of a plan with figures, as it is made. -/
def Plan.firstStart (p : Plan) (f : PlanFigures) : StartState :=
  if f.planned = 0 then .notNeeded
  else if p.planStart = .early ∨ p.lateNow f f.w = true then .raised
  else .waiting

/-- R89, R90: the record of a plan that looks at the sample record `x`, as its other inputs stand. -/
def State.newPlan (s : State) (x : SampleRecord) (cause : BandCause) : Plan :=
  let base : Plan := { uptime := s.now, time := s.tck.time, cause := cause, planStart := s.cfg.plan.planStart }
  if x.active.isNone then { base with noSight := true }
  else if s.cfg.strap.isEmpty then { base with noTable := true }
  else
    let base := { base with lateSlackMin := some s.cfg.plan.lateSlackMin }
    let f := s.planFigures x
    let start := base.firstStart f
    { base with
      ceilingLimited := decide (f.vCeil < f.vWant), disagree := x.disagree, rateDefault := s.fpl.learned.isNone,
      forecastDefault := decide (f.n = 0), figures := some f, startState := start,
      raisedUptime := if start = .raised then some s.now else none }

/-- R93: the night demand of a plan is handed over. -/
def handDemand (p : Plan) (s : State) : State :=
  match p.figures with
  | some f => nightDemand f.vTarget f.planned s
  | none => s

/-- R89 to R94: a plan is made. -/
def makePlan (x : SampleRecord) (cause : BandCause) (s : State) : State :=
  let s := discardAllowance s
  let p := s.newPlan x cause
  let s := noticePlan p (s.withFpl { s.fpl with plan := some p })
  if p.startState = .raised then handDemand p s else s

/-- R94: the minute event at the Fill Planner. -/
def plannerMinute (s : State) : State :=
  match s.fpl.plan, s.runLeft with
  | some p, some left =>
    match p.figures with
    | some f =>
      if p.startState = .waiting ∧ s.tck.band = .cheap ∧ p.lateNow f left = true then
        let s := s.withFpl { s.fpl with plan := some { p with startState := .raised, raisedUptime := some s.now } }
        (handDemand p s).raise .plan [1]
      else s
    | none => s
  | _, _ => s

/-- R94: a waiting start is cancelled. -/
def cancelStart (s : State) : State :=
  match s.fpl.plan with
  | some p =>
    if p.startState = .waiting then
      (s.withFpl { s.fpl with plan := some { p with startState := .cancelled } }).raise .plan [2]
    else s
  | none => s

/-- R79: the Fill Planner takes a band change; a plan made at it looks at the sample record `x`. Of one change out of CHEAP, CANCELLED is raised before ALLOWANCE_SET: the model's choice (log
entry 24). -/
def plannerBand (x : SampleRecord) (old new : Band) (cause : BandCause) (s : State) : State :=
  let s := if old = .cheap then setAllowance (cancelStart s) else s
  match new with
  | .cheap => makePlan x cause s
  | .peak => discardAllowance s
  | .standard => s

/-! ### The learned rate and the stall mark (R99, R101, R102) -/

/-- R101: the learned rate is forgotten. -/
def forgetRate (s : State) : State :=
  (s.withFpl { s.fpl with learned := none }).raise .plan [6, optNum s.fpl.learned, absentField, absentField]

/-- R99: the METER_STALL flag is set while a fill record is open. -/
def plannerStall (s : State) : State :=
  if s.fsq.fill.isSome then s.withFpl { s.fpl with stallMark := true } else s

end Sys2Proof.Machine
end

