-- ==== Sys2Proof/Machine/Meter.lean ====
section
/-! DEFINITION. Inflow Meter (sections 3.6 and 3.7): the pulse and the stall timer. -/
namespace Sys2Proof.Machine

/-- R66: a tally in litres saturates at 4,294,967,295. -/
def addLitres (tally litres : Nat) : Nat := min 4294967295 (tally + litres)

/-- R66: the Inflow Meter's own tallies after a pulse of `lpp` litres. -/
def Ifm.pulse (lpp : Nat) (m : Ifm) : Ifm :=
  { m with
    pulses := m.pulses + 1
    fillTally := m.fillTally.map fun t => addLitres t lpp
    dayPulses := m.dayPulses + 1
    intervalTally := addLitres m.intervalTally lpp }

/-- R68: a pulse at stall supervision. -/
def stallPulse (s : State) : State :=
  let m := s.ifm
  let timer := if m.armed then s.load s.cfg.valve.meterStallS else m.stallTimer
  let s' := s.withIfm { m with stall := false, stallTimer := timer }
  if m.stall then s'.raise .meter [1] else s'

/-- R66, R33, R97: every tally and both decrements take the pulse as the state stands at it. -/
def countPulse (s : State) : State :=
  let lpp := s.cfg.valve.litresPerPulse
  ((s.withIfm (s.ifm.pulse lpp)).withOfg (s.ofg.pulse lpp)).withFpl (s.fpl.pulse lpp s.topupRuns)

/-- R66: what follows at one receiver of a pulse that spends the blind budget or the allowance, or neither. -/
def takePulse (budget allowance : Bool) (b : Block) (s : State) : State :=
  match b with
  | .ofg => if budget then judgePermission s else s
  | .fpl => if allowance then allowanceSpent s else s
  | .ifm => stallPulse s
  | _ => s

/-- R66: a meter pulse. The decrements come before any receiver acts, so a fill that ends at the pulse hides it from none of them. -/
def meterPulse (s : State) : State :=
  (countPulse s).handTo [.ofg, .fpl, .ifm] (takePulse s.spendsBudget s.spendsAllowance)

/-- R68: the setting of METER_STALL at one receiver. -/
def takeStall (b : Block) (s : State) : State :=
  match b with
  | .fpl => plannerStall s
  | .fsq => sequenceStall s
  | _ => s

/-- R68: the METER_STALL flag is set. -/
def setStall (s : State) : State :=
  if s.ifm.stall then s
  else ((s.withIfm { s.ifm with stall := true }).raise .meter [0]).handTo [.fpl, .fsq] takeStall

/-- R68: the stall timer expires, and stays stopped until the next pulse. -/
def stallExpiry (s : State) : State :=
  if s.ifm.stallTimer.isSome then setStall (s.withIfm { s.ifm with stallTimer := none }) else s

end Sys2Proof.Machine
end

