-- ==== Sys2Proof/Machine/Lmu.lean ====
section
/-! DEFINITION. Level Measurement Unit (chapter 1): reading classes, health, flat-line detection, source selection, smoothing,
rate, guard level, disagreement and the sample record. -/
namespace Sys2Proof.Machine

/-- R3: sensor A's level from a count; none is a RANGE condition. -/
def headLevel (c : LmuSettings) (count : Nat) : Option Nat :=
  let n : Int := count
  let zero : Int := c.aZero
  let full : Int := c.aFull
  if n < zero - 40 ∨ full + 40 < n then none
  else some (clamp 0 20000 (c.aOffsetMm + Int.fdiv ((n - zero) * c.aSpanMm) (full - zero))).toNat

/-- R4: sensor B's level from a distance; none is a RANGE condition. -/
def rangeLevel (c : LmuSettings) (distance : Nat) : Option Nat :=
  if distance < 300 ∨ 20000 < distance then none
  else some (clamp 0 20000 ((c.bMountMm : Int) - distance)).toNat

/-- The class of a held reading at a sample (R7). -/
inductive ReadClass where
  | absent | stale | range | valid (level : Nat)
  deriving DecidableEq, Repr

def ReadClass.level : ReadClass → Option Nat
  | .valid l => some l
  | _ => none

/-- R7: the checks in their order, with the sensor's conversion. -/
def classify (staleS : Nat) (now : Word) (convert : Nat → Option Nat) (held : Option Reading) : ReadClass :=
  match held with
  | none => .absent
  | some r =>
    if staleS < elapsed now r.stamp then .stale
    else match convert r.raw with
      | none => .range
      | some l => .valid l

/-! ### Flat line (R10, R11) -/

/-- R10: the highest minus the lowest level among the non-empty entries. -/
def windowSpread (ring : List (Option Nat)) : Nat :=
  match ring.filterMap id with
  | [] => 0
  | l :: rest => rest.foldl max l - rest.foldl min l

/-- R10: the newest pulse count minus the oldest, modulo 2^32. -/
def windowPulses (ring : List Word) : Nat :=
  match ring with
  | [] => 0
  | oldest :: rest => (rest.getLastD oldest - oldest).toNat

/-- R11: a full window of readings inside the band, with corroborated movement. -/
def flatLine (c : LmuSettings) (own other : List (Option Nat)) (metered : Bool) : Bool :=
  decide (own.length = c.flatWindow) && own.all Option.isSome && decide (windowSpread own ≤ c.flatBandMm) &&
    (metered || decide (3 * c.flatBandMm < windowSpread other))

/-! ### Health (R8, R9, R11, R12) -/

/-- A sensor's new health with its warming count and flat reference, for a class of reading. `flat` is the check of R11. -/
def nextHealth (c : LmuSettings) (flat : Bool) (before : Health) (st : SensorState) (cls : ReadClass) : Health × SensorState :=
  match cls with
  | .absent => (before, st)
  | .stale => (.failed .stale, { st with warmCount := 0, flatRef := none })
  | .range => (.failed .range, { st with warmCount := 0, flatRef := none })
  | .valid level =>
    match before with
    | .absent | .failed _ => (if c.warmSamples = 0 then .good else .warming, { st with warmCount := 0 })
    | .warming =>
      if c.warmSamples ≤ st.warmCount + 1 then (.good, { st with warmCount := 0 })
      else (.warming, { st with warmCount := st.warmCount + 1 })
    | .good => if flat then (.suspectFlat, { st with flatRef := some level }) else (.good, st)
    | .suspectFlat =>
      if c.flatBandMm < absDiff level (st.flatRef.getD level) then (.good, { st with flatRef := none })
      else (.suspectFlat, st)

/-- R8: health, then the GOOD run count. -/
def gradeSensor (c : LmuSettings) (flat : Bool) (before : Health) (st : SensorState) (cls : ReadClass) : Health × SensorState :=
  let (h, st') := nextHealth c flat before st cls
  (h, { st' with goodRun := if h = .good then min 600 (st.goodRun + 1) else 0 })

def Health.usable : Health → Bool
  | .good | .suspectFlat => true
  | _ => false

/-! ### Source selection (R13, R14) -/

def Sensor.other : Sensor → Sensor
  | .a => .b | .b => .a

def pick {α : Type} (x : Sensor) (a b : α) : α :=
  match x with
  | .a => a | .b => b

/-- R13: the fresh order of choice. -/
def freshSource (primary : Sensor) (ha hb : Health) : Option Sensor :=
  let hp := pick primary ha hb
  let hk := pick primary.other ha hb
  if hp = .good then some primary
  else if hk = .good then some primary.other
  else if hp = .suspectFlat then some primary
  else if hk = .suspectFlat then some primary.other
  else none

/-- R14: the active source at a sample; `primaryRun` is the primary's GOOD run count. -/
def selectSource (c : LmuSettings) (before : Option Sensor) (ha hb : Health) (primaryRun : Nat) : Option Sensor :=
  if before = some c.primary.other ∧ pick c.primary.other ha hb = .good then
    if c.revertive = true ∧ c.revertSamples ≤ primaryRun then some c.primary else before
  else freshSource c.primary ha hb

/-! ### Smoothing and rate (R18, R19) -/

/-- R18: one step of the smoothed-level accumulator. -/
def smoothStep (k : Nat) (acc : Int) (level : Nat) : Int := acc + Int.fdiv (16 * level - acc) (2 ^ k)

/-- R19: the rate of a full ring. -/
def rateOf (c : LmuSettings) (ring : List Nat) : Option Int :=
  match ring with
  | [] => none
  | oldest :: rest =>
    if ring.length = c.rateSpan + 1 then
      some (clamp (-9999) 9999
        (Int.tdiv (((rest.getLastD oldest : Int) - oldest) * 60) (c.rateSpan * c.samplePeriodS)))
    else none

/-! ### Guard level (R16) -/

/-- R16: the highest level among the usable sensors. -/
def guardLevelOf (ha hb : Health) (la lb : Option Nat) : Option Nat :=
  match (if ha.usable then la else none), (if hb.usable then lb else none) with
  | some a, some b => some (max a b)
  | some a, none => some a
  | none, some b => some b
  | none, none => none

/-! ### The sample (R5) -/

/-- R5, steps 1 to 7: the LMU after one sample. `pulses` is the running pulse count as read at the sample, `stall` the METER_STALL
flag, `lpp` the litres_per_pulse in force. -/
def Lmu.formSample (c : LmuSettings) (table : List StrapPoint) (now pulses : Word) (lpp : Nat) (stall : Bool) (l : Lmu) : Lmu :=
  let old := l.sample
  let clsA := classify c.staleS now (headLevel c) l.a.held
  let clsB := classify c.staleS now (rangeLevel c) l.b.held
  let ringA := push c.flatWindow l.a.ring clsA.level
  let ringB := push c.flatWindow l.b.ring clsB.level
  let pulseRing := push c.flatWindow l.pulseRing pulses
  let metered := decide (c.flatFlowL ≤ windowPulses pulseRing * lpp) && !stall
  let (ha, a) := gradeSensor c (flatLine c ringA ringB metered) old.healthA { l.a with ring := ringA } clsA
  let (hb, b) := gradeSensor c (flatLine c ringB ringA metered) old.healthB { l.b with ring := ringB } clsB
  let active := selectSource c old.active ha hb (pick c.primary a.goodRun b.goodRun)
  let changed := decide (active ≠ old.active)
  let activeLevel := active.bind fun x => pick x clsA.level clsB.level
  let acc := match activeLevel with
    | some x => if !l.seeded || changed then 16 * (x : Int) else smoothStep c.smoothK l.acc x
    | none => l.acc
  let smoothed := if active.isSome then some (Int.fdiv acc 16).toNat else none
  let rateBase := if changed then [] else l.rateRing
  let rateRing := match smoothed with
    | some v => push (c.rateSpan + 1) rateBase v
    | none => rateBase
  let guardLevel := guardLevelOf ha hb clsA.level clsB.level
  let apart := decide (ha = .good) && decide (hb = .good) &&
    decide (c.agreeMm < absDiff (clsA.level.getD 0) (clsB.level.getD 0))
  let count := if apart then l.disagreeCount + 1 else 0
  let disagree := apart && (old.disagree || decide (c.agreeSamples ≤ count))
  let smoothedVolume := smoothed.bind (volumeAt table)
  let guardVolume := guardLevel.bind (volumeAt table)
  { l with
    a := a, b := b, pulseRing := pulseRing, acc := acc, seeded := l.seeded || activeLevel.isSome, rateRing := rateRing,
    disagreeCount := count,
    sample :=
      { uptime := now, healthA := ha, healthB := hb, levelA := clsA.level, levelB := clsB.level, active := active,
        activeLevel := activeLevel, smoothed := smoothed, rate := rateOf c rateRing, guardLevel := guardLevel, swap := changed,
        disagree := disagree, smoothedVolume := smoothedVolume, guardVolume := guardVolume,
        planningVolume := if disagree then guardVolume else smoothedVolume } }

/-- R8, R15, R17: the notices of a sample in the order of R5, from the record before and the record formed. SENSOR_HEALTH names sensor A as 1 and
B as 2, the codes of the active source: the model's choice (log entry 10). -/
def sampleNotices (old new : SampleRecord) : List (NoticeClass × List Word) :=
  (if new.healthA ≠ old.healthA then
    [(.sensorHealth, [numField Sensor.a.code, numField new.healthA.code, new.healthA.causeField])] else []) ++
  (if new.healthB ≠ old.healthB then
    [(.sensorHealth, [numField Sensor.b.code, numField new.healthB.code, new.healthB.causeField])] else []) ++
  (if new.active ≠ old.active then
    [(.sourceChange, [numField (sourceCode old.active), numField (sourceCode new.active), optNum new.activeLevel])] else []) ++
  (if new.disagree ≠ old.disagree then
    [(.disagree, [twoWay new.disagree, optNum new.levelA, optNum new.levelB])] else [])

/-- Raises notices in turn. -/
def State.raiseAll (s : State) (ns : List (NoticeClass × List Word)) : State := ns.foldl (fun t n => t.raise n.1 n.2) s

/-- R5: the sample timer reloads, the sample forms, and its notices are raised. -/
def lmuSample (s : State) : State :=
  let l := s.lmu.formSample s.cfg.lmu s.cfg.strap s.now s.ifm.pulses s.cfg.valve.litresPerPulse s.ifm.stall
  (s.withLmu { l with sampleTimer := s.load s.cfg.lmu.samplePeriodS }).raiseAll (sampleNotices s.lmu.sample l.sample)

/-- R1: an arrival at the head sensor port. -/
def headArrival (count : Nat) (s : State) : State :=
  s.withLmu { s.lmu with a := { s.lmu.a with held := some ⟨count, s.now⟩ } }

/-- R2: a distance replaces the held reading; the echo-lost marker counts as no arrival. -/
def rangeArrival (distance : Option Nat) (s : State) : State :=
  match distance with
  | some d => s.withLmu { s.lmu with b := { s.lmu.b with held := some ⟨d, s.now⟩ } }
  | none => s

/-- R24: what an accepted SENSOR_SET does to the LMU's runtime state; `old` and `new` are the settings before and after. -/
def sensorChange (old new : LmuSettings) (s : State) : State :=
  let l := s.lmu
  let l := if new.samplePeriodS ≠ old.samplePeriodS then { l with sampleTimer := s.load new.samplePeriodS, rateRing := [] } else l
  let l := if new.rateSpan ≠ old.rateSpan then { l with rateRing := [] } else l
  let l := if new.flatWindow ≠ old.flatWindow then
    { l with a := { l.a with ring := [] }, b := { l.b with ring := [] }, pulseRing := [] } else l
  s.withLmu l

end Sys2Proof.Machine
end

