-- ==== Sys2Proof/Machine/Clock.lean ====
section
/-! DEFINITION. Tariff Clock (chapter 4): the advance, the minute boundary, the band change and its hand-over, CLOCK_SET. -/
namespace Sys2Proof.Machine

/-- R79: a band change at one receiver. -/
def takeBand (x : SampleRecord) (old new : Band) (cause : BandCause) (b : Block) (s : State) : State :=
  match b with
  | .fpl => plannerBand x old new cause s
  | .fsq => sequenceBand old new s
  | .fhc => powerRun s
  | _ => s

/-- R78, R79: the band is evaluated; a change replaces the current band and is handed over. A plan made at it looks at the sample record `x`. -/
def judgeBandOn (x : SampleRecord) (cause : BandCause) (s : State) : State :=
  let old := s.tck.band
  let new := s.evalBand
  if new = old then s
  else (s.withTck { s.tck with band := new }).handTo [.fpl, .fsq, .fhc] (takeBand x old new cause)

/-- R78, R79, R89: a band change at which a plan looks at the latest sample record. -/
def judgeBand (cause : BandCause) (s : State) : State := judgeBandOn s.lmu.sample cause s

/-- R73: the minute event at one receiver. -/
def takeMinute (b : Block) (s : State) : State :=
  match b with
  | .fpl => plannerMinute s
  | .fsq => startCheck s
  | _ => s

/-- R73: the work of a minute boundary. -/
def minuteBoundary (t : TimeOfWeek) (s : State) : State :=
  let s := if t.seconds = 0 then midnight t.day s else s
  (judgeBand .advance s).handTo [.fpl, .fsq] takeMinute

/-- R72: one second on. -/
def TimeOfWeek.tick (t : TimeOfWeek) : TimeOfWeek :=
  if t.seconds + 1 < 86400 then ⟨t.day, t.seconds + 1⟩ else ⟨(t.day + 1) % 7, 0⟩

/-- R71, R72: an advance. -/
def advance (s : State) : State :=
  let time := s.tck.time.map TimeOfWeek.tick
  let s := s.withTck { s.tck with uptime := s.tck.uptime + 1, time := time }
  match time with
  | some t => if t.seconds % 60 = 0 then minuteBoundary t s else s
  | none => s

/-- R77: an accepted CLOCK_SET. -/
def setClock (t : TimeOfWeek) (s : State) : State :=
  judgeBand .clockSet (clockAdjusted t.day (s.withTck { s.tck with time := some t }))

end Sys2Proof.Machine
end

