-- ==== Sys2Proof/Machine/Overflow.lean ====
section
/-! DEFINITION. Frost Heating Controller, what reaches other blocks: the overflow path, temperature arrivals, the season step, HEAT_SET
(R148 to R152, R157, R164). -/
namespace Sys2Proof.Machine

/-- R152: a change of the overflow path at one receiver. -/
def takePath (b : Block) (s : State) : State :=
  match b with
  | .ofg => recomputeCeiling s
  | .fsq => sequencePath s
  | _ => s

/-- R152: the overflow path is judged; a change is handed over and raises FROST. An OVERFLOW reading that is not valid is carried as absent, the
model's choice (log entry 12). -/
def judgePath (s : State) : State :=
  let now := s.pathNow
  if now = s.fhc.pathProven then s
  else
    ((s.withFhc { s.fhc with pathProven := now }).handTo [.ofg, .fsq] takePath).raise .frost
      [if now then 1 else 2, optInt s.fhc.temps.overflow.reading]

/-- R149: what is judged at an arrival or a validity expiry of a record. -/
def judgeReading (port : TempPort) (s : State) : State :=
  match port with
  | .ambient => s
  | .overflow => judgePath (reviewNeeds (fun z => decide (zonePort z = port)) s)
  | .riser | .pit | .sensor => reviewNeeds (fun z => decide (zonePort z = port)) s

/-- R148, R157: an arrival at a temperature port. An arrival that ends the start hold ends it, with its needs and its first run, before the path is
judged: an order of the model's choice (log entry 37). -/
def temperatureArrival (port : TempPort) (value : Int) (s : State) : State :=
  let r : TempRecord := ⟨some value, s.now, s.load 60⟩
  judgeReading port (endHold (s.withFhc { s.fhc with temps := s.fhc.temps.put port r }))

/-- R148: a validity timer expires. -/
def validityExpiry (port : TempPort) (s : State) : State :=
  let r := s.fhc.temps.get port
  if r.validity.isSome then
    judgeReading port (s.withFhc { s.fhc with temps := s.fhc.temps.put port { r with validity := none } })
  else s

/-- R157: the start timer expires. -/
def startExpiry (s : State) : State := if s.fhc.startTimer.isSome then endHold s else s

/-- R151: a change of the reported season. The path is judged first, then the needs with their run, then the trigger is handed over: an order of
the model's choice (log entry 37). -/
def seasonReported (s : State) : State :=
  let s := judgePath s
  let s := reviewNeeds (fun z => (s.zoneReading z).isNone) s
  if s.fhc.season.reportedIn then takeTrigger .frostEntry s else s

/-- R150, R151: a season step. FROST carries an AMBIENT reading that is not valid as absent, the model's choice (log entry 12). -/
def seasonStep (s : State) : State :=
  let s := s.withFhc { s.fhc with seasonTimer := s.load 60 }
  let ambient := s.fhc.temps.ambient.reading
  let f := seasonCounts s.cfg.heat ambient s.fhc
  let new := seasonNext s.cfg.heat.frostPersistMin f
  if new = f.season then s.withFhc f
  else
    let s := (s.withFhc { f with season := new, cold := 0, warm := 0, valid := 0 }).raise .frost
      [0, numField f.season.code, numField new.code, optInt ambient]
    if f.season.reportedIn = new.reportedIn then s else seasonReported s

/-- R164: what an accepted HEAT_SET does after the settings are replaced. The path is judged before the run, an order of the model's choice (log
entry 37). -/
def heatChange (s : State) : State := powerRun (judgePath s)

end Sys2Proof.Machine
end

