-- ==== Sys2Proof/Machine/Station.lean ====
section
/-! DEFINITION. Station Line Interface (chapter 7), from the judged frame upward: good frames, errors, persistence, grading, recovery, the
error log, uncalled supply, LINE_SET. -/
namespace Sys2Proof.Machine

/-- R138: the silence timer as it is loaded now. -/
def State.silence (s : State) : Timer := s.load (3 * s.cfg.line.linePeriodS)

/-- R139 to R141: the notice of a change of line state from `old`. -/
def lineNotice (old : LineState) (s : State) : State :=
  s.raise .lineChange
    [numField old.code, numField s.sli.state.code, numField s.sli.counter, numField s.sli.lastError.number]

/-- R139: the state that a counter gives to a line that is not LOST. -/
def gradeOf (counter : Nat) : LineState := if 96 ≤ counter then .warn else .ok

/-- R139: the line state follows the counter. -/
def setCounter (n : Nat) (s : State) : State :=
  let old := s.sli.state
  let s := s.withSli { s.sli with counter := n, state := gradeOf n }
  if gradeOf n = old then s else lineNotice old s

/-! ### Uncalled supply (R145) -/

def uncalledSupply (s : State) : State :=
  s.raise .uncalledSupply
    [numField (acceptedCode s.sli.accepted), numField s.sli.outgoing.code, numField s.fsq.seq.code, numField s.ivd.state.code]

/-- R145, first case: a change of the accepted code to RUNNING without CALL. -/
def judgeUncalled (s : State) : State :=
  if s.cfg.line.supplyMode = .called ∧ s.sli.accepted = some .running ∧ s.sli.outgoing ≠ .call then uncalledSupply s else s

/-- R145, second case: the release timer expires with the accepted code RUNNING. -/
def judgeRelease (s : State) : State :=
  if s.cfg.line.supplyMode = .called ∧ s.sli.accepted = some .running ∧ s.waitsInRelease = true then uncalledSupply s
  else s

/-! ### Good frames (R135, R136, R141) -/

/-- R136: a new accepted code at one receiver. The Overflow Guard's state does not follow it (R42). -/
def takeCode (c : StationCode) (b : Block) (s : State) : State :=
  match b with
  | .fsq => sequenceCode c s
  | .ifm => judgeArm s
  | _ => s

/-- R136: a code becomes the accepted code. -/
def acceptCode (c : StationCode) (s : State) : State :=
  judgeUncalled ((s.withSli { s.sli with accepted := some c }).handTo [.fsq, .ofg, .ifm] (takeCode c))

/-- R136: persistence takes the code of a good frame. -/
def persistence (c : StationCode) (s : State) : State :=
  let n := s.cfg.line.persistN
  let count := if s.sli.candidate = some c then min n (s.sli.persist + 1) else 1
  let s := s.withSli { s.sli with candidate := some c, persist := count }
  if n ≤ count ∧ s.sli.accepted ≠ some c then acceptCode c s else s

/-- R141: a good frame while LOST. -/
def recoverLine (s : State) : State :=
  let n := s.sli.recovery + 1
  if 16 ≤ n then lineNotice .lost (s.withSli { s.sli with counter := 0, state := .ok, recovery := 0, silenceTimer := s.silence })
  else s.withSli { s.sli with recovery := n, silenceTimer := s.silence }

/-- R135, R141: a good frame. -/
def goodFrame (c : StationCode) (s : State) : State :=
  if s.sli.state = .lost then recoverLine s
  else
    let s := setCounter (s.sli.counter - 1) s
    persistence c (s.withSli { s.sli with silenceTimer := s.silence })

/-! ### Errors (R137, R138, R140, R142) -/

/-- R140: the entry to LOST at one receiver. -/
def takeLost (b : Block) (s : State) : State :=
  match b with
  | .fsq => sequenceLost s
  | .ifm => judgeArm s
  | .trc => takeTrigger .lineLost s
  | _ => s

/-- R140: the line enters LOST. -/
def loseLine (s : State) : State :=
  let old := s.sli.state
  let s := s.withSli { s.sli with
    state := .lost, counter := 255, accepted := none, candidate := none, persist := 0, recovery := 0 }
  (lineNotice old s).handTo [.fsq, .ofg, .ifm, .trc] takeLost

/-- R142: the error log. -/
def logError (s : State) : State :=
  let l := s.sli
  if l.logCount < 255 then s.withSli { l with logCount := l.logCount + 1 }
  else if l.logFull then s
  else (s.withSli { l with logFull := true }).raise .errorLogFull [numField l.lastError.number, numField l.state.code]

/-- R137: an error of any kind. -/
def lineError (kind : LineError) (s : State) : State :=
  let s :=
    if s.sli.state = .lost then s
    else if 255 < s.sli.counter + 8 then loseLine s
    else setCounter (s.sli.counter + 8) s
  let s := logError (s.withSli { s.sli with lastError := kind })
  if s.sli.state = .lost then s.withSli { s.sli with recovery := 0 } else s

/-- R138: the silence timer expires. -/
def silenceExpiry (s : State) : State :=
  let s := lineError .silence s
  s.withSli { s.sli with silenceTimer := s.silence }

/-! ### Frames and bits (R133, R134) -/

/-- R134: a completed frame is judged. -/
def takeFrame (address : BitVec 6) (code : BitVec 4) (check : BitVec 8) (s : State) : State :=
  match judgeFrame s.cfg.line.lineAddress address code check with
  | .ok c => goodFrame c s
  | .error kind => lineError kind s

/-- A frame completes at its closing flag; the receiver takes no more bits of the burst (R133). -/
def stationFrame (address : BitVec 6) (code : BitVec 4) (check : BitVec 8) (s : State) : State :=
  takeFrame address code check (s.withSli { s.sli with rx := .discard })

/-- R133: what the receiver has completed. -/
def lineEvent (e : LineRxEvent) (s : State) : State :=
  match e with
  | .nothing => s
  | .stuffError => lineError .stuff s
  | .frame bits => takeFrame (bodyParts bits).1 (bodyParts bits).2.1 (bodyParts bits).2.2 s

/-- R133: a bit arrives. -/
def stationBit (bit : Bool) (s : State) : State :=
  let r := s.sli.rx.take bit
  lineEvent r.2 (s.withSli { s.sli with rx := r.1 })

/-- R133: the burst ends. In QUIET, where no burst is, nothing happens, the model's choice (log entry 46). -/
def burstEnd (s : State) : State := lineEvent s.sli.rx.endBurst (s.withSli { s.sli with rx := .quiet })

/-! ### Settings (R146) -/

/-- R146: what an accepted LINE_SET does after the settings are replaced; `old` are the line settings before. -/
def lineChange (old : LineSettings) (s : State) : State :=
  let new := s.cfg.line
  let s := if new.lineAddress ≠ old.lineAddress then s.withSli { s.sli with candidate := none, persist := 0 } else s
  let s := if new.linePeriodS ≠ old.linePeriodS then
    s.withSli { s.sli with periodTimer := s.load new.linePeriodS, silenceTimer := s.silence } else s
  if new.supplyMode ≠ old.supplyMode then judgeArm s else s

end Sys2Proof.Machine
end

