-- ==== Sys2Proof/Machine/Store.lean ====
section
/-! DEFINITION. Settings Store (chapter 11): the commit, power-on, the restart, quiescence, and each block's values at a start. -/
namespace Sys2Proof.Machine

/-! ### Changes of part state (R198 to R200) -/

/-- R198: a change of part state at one receiver. -/
def takePart (new : PartState) (b : Block) (s : State) : State :=
  match b with
  | .fsq => sequencePart new s
  | .fhc => powerRun s
  | .ofg => guardPart new s
  | _ => s

/-- R198: the part state changes: PART_STATE, then the hand-over. -/
def changePart (new : PartState) (keepHeat : Bool) (s : State) : State :=
  let old := s.sst.part
  (partNotice old (s.withSst { s.sst with part := new, keepHeat := keepHeat })).handTo [.fsq, .fhc, .ofg] (takePart new)

/-- R198: an accepted QUIESCE. The change to QUIESCING is handed over before QUIET is judged, an order of the model's choice (log entry 24). -/
def quiesceAs (keepHeat : Bool) (s : State) : State :=
  if s.sst.part = .running then judgeRest (changePart .quiescing keepHeat s)
  else if s.sst.keepHeat = keepHeat then s
  else powerRun (s.withSst { s.sst with keepHeat := keepHeat })

/-- R198: QUIESCE. -/
def quiesce (keepHeat : Word) (s : State) : Answer × State :=
  if !inRange 0 1 keepHeat.toInt then (badValue 0, s)
  else if s.sst.part = .unconfigured then (badState, s)
  else (acceptEmpty, quiesceAs (decide (keepHeat = 0)) s)

/-- R200: RESUME. -/
def resume (s : State) : Answer × State :=
  match s.sst.part with
  | .unconfigured => (badState, s)
  | .running => (acceptEmpty, s)
  | .quiescing | .quiet => (acceptEmpty, changePart .running true s)

/-! ### The commit (R194) -/

/-- R194: COMMIT. -/
def commit (s : State) : Answer × State :=
  if s.sst.writing.isSome then (busyCommit, s)
  else (acceptEmpty, s.withSst { s.sst with writing := some s.sst.working, image := none, imageValid := false })

def writeCode : WriteResult → Nat
  | .ok => 0 | .failed => 1

/-- R194, R196: the write completes. With the commit state IDLE it changes nothing, the model's choice (log entry 39). -/
def writeComplete (result : WriteResult) (s : State) : State :=
  match s.sst.writing with
  | none => s
  | some copy =>
    match result with
    | .failed => (s.withSst { s.sst with writing := none }).raise .commitDone [numField (writeCode result)]
    | .ok =>
      let image : Image := ⟨copy, Config.imageCheck copy⟩
      let s := (s.withSst { s.sst with writing := none, image := some image, imageValid := true }).raise .commitDone
        [numField (writeCode result)]
      if s.sst.part = .unconfigured ∧ copy.strap.isEmpty = false then changePart .running s.sst.keepHeat s else s

/-! ### Each block's values at a start -/

/-- R25. -/
def Lmu.start (w : Settings) : Lmu := { sampleTimer := some ⟨0, w.lmu.samplePeriodS⟩ }

/-- R52: the guard record with the ceiling of the settings loaded, under the power-on report NOT PROVEN. -/
def Ofg.start (w : Settings) (spill : SpillState) : Ofg :=
  let mm := ceilingOf w.ofg false
  let volume := volumeAt w.strap mm
  { ceilingMm := mm, ceilingVolume := volume, heldSpill := spill, reason := if volume.isNone then .noCeiling else .blind }

/-- R53: a latch survives a restart, and so does the previous trip (log entry 33). -/
def Ofg.restart (w : Settings) (g : Ofg) : Ofg :=
  let fresh := { Ofg.start w g.heldSpill with prevTrip := g.prevTrip }
  if g.state.latched then
    { fresh with
      state := g.state, tripCause := g.tripCause, tripRef := g.tripRef, escalation := g.escalation, tripUptime := g.tripUptime,
      reason := .trip }
  else fresh

/-- R127. -/
def Fsq.start (w : Settings) : Fsq := { turnoverTimer := some ⟨0, w.frostFill.turnoverH * 3600⟩ }

/-- R147. -/
def Sli.start (w : Settings) : Sli :=
  { periodTimer := some ⟨0, w.line.linePeriodS⟩, silenceTimer := some ⟨0, 3 * w.line.linePeriodS⟩ }

/-- R166. -/
def Fhc.start (w : Settings) : Fhc :=
  { zones := w.zones.map fun _ c => { state := if c.enabled then .off else .disabled } }

/-- R193: the image as it is judged at a start. -/
def imageGood (image : Option Image) : Bool :=
  match image with
  | some i => decide (i.check = Config.imageCheck i.copy)
  | none => false

/-- R196: the settings that a start loads from an image judged `valid`. -/
def loadSettings (image : Option Image) (valid : Bool) : Settings :=
  match image with
  | some i => if valid then i.copy else {}
  | none => {}

/-- R196: the part state that loaded settings give. -/
def startPart (w : Settings) : PartState := if w.strap.isEmpty then .unconfigured else .running

/-- R65: the valve starts and its events are handed over. -/
def startValve (p : LimitPattern) (s : State) : State := deliverValve (valveStart p s.ofg.state.latched s)

/-- R196: power-on. The store, the inputs and the model's own fields outlast it. -/
def powerOn (p : LimitPattern) (spill : SpillState) (s : State) : State :=
  let valid := imageGood s.sst.image
  let w := loadSettings s.sst.image valid
  let fresh : State :=
    { lmu := Lmu.start w, ofg := Ofg.start w spill, fsq := Fsq.start w, sli := Sli.start w, fhc := Fhc.start w,
      sst := { working := w, image := s.sst.image, imageValid := valid, part := startPart w },
      pending := s.pending, order := s.order, draws := s.draws }
  startNotice (startValve p fresh)

/-! ### The restart (R197) -/

/-- R127: an open fill record is closed into the journal at a restart. -/
def State.restartJournal (s : State) : List FillRecord :=
  match s.fsq.fill with
  | none => s.fsq.journal
  | some f =>
    let seconds := if s.fsq.seq = .filling then elapsed s.now (f.fillingAt.getD s.now) else f.fillingSeconds
    push 8 s.fsq.journal
      { f with
        cause := some .restart, tally := s.ifm.fillTally.getD 0, vEnd := s.vNow, endUptime := some s.now,
        fillingSeconds := seconds }

/-- R197: the blocks at their restart values, before the valve starts. -/
def State.restarted (s : State) : State :=
  let w := loadSettings s.sst.image true
  { lmu := Lmu.start w
    ofg := s.ofg.restart w
    ivd := { s.ivd with faults := {} }
    ifm := { dayPulses := s.ifm.dayPulses }
    tck := { time := s.tck.time }
    fpl := { openDay := s.fpl.openDay, ring := s.fpl.ring, learned := s.fpl.learned }
    fsq := { Fsq.start w with journal := s.restartJournal }
    sli := { Sli.start w with holdRequest := decide (s.ofg.state = .isolate), rx := s.sli.rx.restart }
    fhc := Fhc.start w
    sst := { working := w, image := s.sst.image, imageValid := s.sst.imageValid, part := startPart w }
    pending := s.pending, order := s.order, draws := s.draws }

/-- R197, R82, R127: the restart, at the reply-sent event. The plan that it makes inside CHEAP looks at the sample record last formed, from before
the restart, so that it hands over the night demand of R127: the model's choice of what R89 calls the latest sample record there (log entry 42). -/
def restartEffect (s : State) : State :=
  judgeBandOn s.lmu.sample .start (restartNotice s.sst.part (startValve s.ivd.pattern s.restarted))

/-- R197: RESTART is judged. -/
def restart (s : State) : Answer × State :=
  if s.sst.writing.isSome then (busyCommit, s)
  else if s.sst.imageValid then (acceptEmpty, s)
  else (badState, s)

end Sys2Proof.Machine
end

