-- ==== Sys2Proof/Machine/Replies.lean ====
section
/-! DEFINITION. The bodies of the GET replies, each with its fields in the order in which the owning rule lists them (section 10.7; log
entry 11). -/
namespace Sys2Proof.Machine

/-- The remaining seconds of a timer, absent while it is stopped. -/
def State.timerField (s : State) (t : Timer) : Word := optNum (remaining s.now t)

/-- A timer that the owner's list gives as stopped or running. -/
def runsField (t : Timer) : Word := if t.isSome then 1 else 0

/-- An optional sub-record: its presence field, then its fields. -/
def subRecord (fields : Option (List Word)) : List Word :=
  match fields with
  | some fs => 1 :: fs
  | none => [0]

/-- R192: one part of a reply in parts; `index` is that of the part number in the request. -/
def partReply (index : Nat) (part : Int) (count : Nat) (fields : Nat → List Word) : Answer :=
  if 0 ≤ part ∧ part < count then acceptFields (intField part :: numField count :: fields part.toNat) else badValue index

/-! ### STATUS_GET (R190) -/

/-- A 4-byte volume, absent as 0xFFFFFFFF. -/
def volumeField (o : Option Nat) : Word := (o.map numField).getD 0xFFFFFFFF#32

def State.statusBody (s : State) : List Byte :=
  let x := s.lmu.sample
  let v := s.svp
  wordBytes s.now ++ [byteOf s.sst.part.code, s.statusFlags, byteOf s.ofg.state.code, byteOf (tripCauseCode s.ofg.tripCause),
    byteOf (sourceCode x.active)] ++
  halfBytes (levelHalf x.activeLevel) ++ halfBytes (levelHalf x.guardLevel) ++ wordBytes (volumeField x.planningVolume) ++
  [byteOf s.ivd.state.code, byteOf s.tck.band.code, byteOf s.fsq.seq.code, byteOf ((s.working.map fun w => w.1.code).getD 0),
    byteOf s.fsq.rows.activeCount] ++
  wordBytes (volumeField (s.working.map Prod.snd)) ++ wordBytes (volumeField s.fpl.allowance) ++
  [byteOf s.sli.state.code, byteOf (acceptedCode s.sli.accepted), byteOf s.sli.outgoing.code] ++
  halfBytes (signedHalf s.fhc.temps.ambient.reading) ++ [byteOf s.fhc.season.code, byteOf (pathCode s.fhc.pathProven)] ++
  (allZones.map fun z => byteOf (s.fhc.zones.get z).state.code) ++ halfBytes (natHalf s.powerUsed) ++
  [byteOf s.trc.queue.length, byteOf s.cfg.history.mode.code, byteOf s.trc.trigger.code] ++
  ([v.gapErrors, v.checkErrors, v.lengthErrors, v.dropped].flatMap fun n => halfBytes (natHalf n)) ++ [byteOf v.lost]

/-! ### Level, valve, clock -/

/-- The age of a held reading or a temperature record (R6, R149). -/
def State.ageField (s : State) (stamp : Option Word) : Word := optNum (stamp.map (age s.now))

/-- LEVEL_GET (R6). The age of a reading that is not there is sent as absent, the model's choice (log entry 32). -/
def State.levelFields (s : State) : List Word :=
  let x := s.lmu.sample
  [x.uptime, numField x.healthA.code, numField x.healthB.code, optNum x.levelA, optNum x.levelB, numField (sourceCode x.active),
   optNum x.activeLevel, optNum x.smoothed, optInt x.rate, optNum x.guardLevel, twoWay x.swap, twoWay x.disagree,
   optNum x.smoothedVolume, optNum x.guardVolume, optNum x.planningVolume] ++
  [s.lmu.a, s.lmu.b].flatMap fun r => [optNum (r.held.map Reading.raw), s.ageField (r.held.map Reading.stamp)]

/-- The mask of noted causes in the order of R63. -/
def FaultRecord.mask (f : FaultRecord) : Word :=
  numField (ofLsbBits [f.openTimeout.isSome, f.closeTimeout.isSome, f.bothLimits.isSome, f.passing.isSome])

/-- VALVE_GET (R54, R69). -/
def State.valveFields (s : State) : List Word :=
  let v := s.ivd
  let f := v.faults
  [numField v.state.code, v.state.causeField, numField (patternCode v.pattern), numField v.drive.code, s.timerField v.watchdog,
   s.timerField v.reprove, twoWay v.forceClose, f.mask, optWord f.openTimeout, optWord f.closeTimeout, optWord f.bothLimits,
   optWord f.passing, numField f.count] ++ valveSettingFields s.cfg.valve

/-- CLOCK_GET (R71). -/
def State.clockFields (s : State) : List Word :=
  let t := s.tck.time
  [twoWay t.isSome, optNum (t.map TimeOfWeek.day), optNum (t.map TimeOfWeek.seconds), s.now, numField s.tck.band.code,
   optNum s.runLeft]

/-! ### The guard record (R26, R29, R42, R43, R50) -/

/-- R48, R49: a running guard test, in the order that R50 gives for the ended one: the model's choice (log entry 11). -/
def GuardTest.fields (t : GuardTest) : List Word :=
  [numField t.offset, numField t.count, numField t.samplesRun, numField t.highest.code, numField t.needed,
   numField t.closeResult.code]

def PrevTrip.fields (p : PrevTrip) : List Word :=
  [numField (tripCauseCode p.cause), optNum p.ref, optNum (p.escalation.map Escalation.code), optWord p.uptime]

def State.guardRecord (s : State) : List Word :=
  let g := s.ofg
  [numField g.state.code, twoWay g.blindFlag, numField g.warnCount, numField g.exitCount, numField g.tripLevelCount,
   numField g.spillCount, numField g.passCount, numField (tripCauseCode g.tripCause), optNum g.tripRef,
   optNum (g.escalation.map Escalation.code), optWord g.tripUptime, optNum g.vLast, numField g.budget, numField g.ceilingMm,
   optNum g.ceilingVolume, twoWay g.granted, numField g.reason.code] ++
  subRecord (g.test.map GuardTest.fields) ++ subRecord (g.lastTest.map TestRecord.fields) ++
  subRecord (g.prevTrip.map PrevTrip.fields) ++ [twoWay (!s.fhc.pathProven), numField (acceptedCode s.sli.accepted)]

/-- GUARD_GET (R192). -/
def State.guardReply (s : State) (part : Int) : Answer :=
  partReply 0 part 2 fun n => if n = 0 then guardFields s.cfg.ofg else s.guardRecord

/-! ### The station line (R128, R143) -/

def rxCode : LineRx → Word
  | .quiet => 0 | .late => 0 | .hunting _ => 1 | .body _ _ => 2 | .trailer _ _ _ => 3 | .discard => Config.discardCode

/-- A station code, or none: sent as the absent value, the model's choice for a candidate of none (log entry 11). -/
def stationField (o : Option StationCode) : Word := optNum (o.map StationCode.code)

/-- LINE_GET (R128, R146). -/
def State.lineFields (s : State) : List Word :=
  let l := s.sli
  lineSettingFields s.cfg.line s.cfg.supply ++
  [numField l.state.code, numField l.counter, numField l.recovery, stationField l.candidate, numField l.persist,
   numField (acceptedCode l.accepted), if l.wishCall then 1 else 0, twoWay l.holdRequest, numField l.outgoing.code,
   optNum (l.lastSent.map TowerCode.code), numField l.lastError.number, numField l.logCount, twoWay l.logFull, rxCode l.rx,
   s.timerField l.periodTimer, s.timerField l.silenceTimer]

/-- LINE_STATS (R143). -/
def State.lineStatFields (s : State) : List Word :=
  let l := s.sli
  [numField l.lastError.number, numField l.logCount, numField l.state.code, numField l.counter, numField l.recovery,
   stationField l.candidate, numField l.persist, numField (acceptedCode l.accepted)]

/-! ### The planner (R83 to R88, R92, R101) -/

def Plan.fields (p : Plan) : List Word :=
  let of := fun g : PlanFigures → Nat => optNum (p.figures.map g)
  [p.uptime, optNum (p.time.map TimeOfWeek.day), optNum (p.time.map TimeOfWeek.seconds), numField p.cause.code, p.flagMask,
   of PlanFigures.vNow, of PlanFigures.vFloor, of PlanFigures.vCeil, of PlanFigures.w, of PlanFigures.qEff, of PlanFigures.n,
   of PlanFigures.d, of PlanFigures.f, of PlanFigures.vWant, of PlanFigures.vTarget, optNum (p.figures.bind PlanFigures.targetLevel),
   of PlanFigures.need, of PlanFigures.capacity, of PlanFigures.planned, of PlanFigures.shortfall, of PlanFigures.minutes,
   numField p.planStart.code, optNum p.lateSlackMin, numField p.startState.code, optWord p.raisedUptime]

/-- PLAN_SHOW (R92, R101). The learned rate stands after the plan record, a place of the model's choice (log entry 11). -/
def State.planFields (s : State) : List Word := subRecord (s.fpl.plan.map Plan.fields) ++ [optNum s.fpl.learned]

def DayRecord.fields (d : DayRecord) (inflow : Nat) : List Word :=
  [optNum d.day, numField d.openedBy.code, optNum d.vStart, numField inflow,
   numField (ofLsbBits [d.partialDay, d.adjusted, d.noVolume])]

/-- R84: a closed day record. Its inflow in litres stands where the open record has the inflow, and V_end and draw come last: an order of the
model's choice (log entry 11). -/
def ClosedDay.fields (d : ClosedDay) : List Word := d.opening.fields d.inflow ++ [optNum d.vEnd, optNum d.draw]

/-- DAYS_GET (R85, R192). -/
def State.daysReply (s : State) (part : Int) : Answer :=
  let k := forecast s.cfg.plan s.fpl.ring
  partReply 0 part (1 + s.fpl.ring.length) fun n =>
    if n = 0 then s.fpl.openDay.fields s.dayLitres ++ [numField k.n, numField k.d, numField k.f]
    else ((s.fpl.ring[n - 1]?).map ClosedDay.fields).getD []

/-! ### Fills (R103, R125) -/

/-- R103: a row, with the fields of other kinds absent. -/
def Row.fields (k : Kind) (r : Row) : List Word :=
  [if r.active then 1 else 0, if r.active then numField r.target else absentField, optWord r.raised, numField r.attempts,
   if k = .night then optNum r.planned else absentField, if k = .floor then optNum (r.floorBand.map Band.code) else absentField,
   if k = .manual then optNum r.level else absentField]

def FillRecord.fields (f : FillRecord) : List Word :=
  [f.start, optWord f.endUptime, numField f.kind.code, f.finalKindField, numField f.mode.code, numField f.targetStart,
   numField f.targetEnd, optNum f.planned, optNum (f.cause.map EndCause.code), optNum (f.prior.map EndCause.code), numField f.tally,
   numField f.fillingSeconds, optNum f.vStart, optNum f.vEnd, f.flagMask]

/-- R125: the open record as it stands, with its tally read now. Its seconds in FILLING read 0 until the fill's end is recorded, the model's
choice (log entry 36). -/
def State.openFill (s : State) : Option FillRecord := s.fsq.fill.map fun f => { f with tally := s.ifm.fillTally.getD 0 }

/-- FILLS_GET (R125, R192). -/
def State.fillsReply (s : State) (part : Int) : Answer :=
  partReply 0 part (2 + s.fsq.journal.length) fun n =>
    if n = 0 then Kind.all.flatMap fun k => (s.fsq.rows.row k).fields k
    else if n = 1 then subRecord (s.openFill.map FillRecord.fields)
    else ((s.fsq.journal[n - 2]?).map FillRecord.fields).getD []

/-! ### Heating (R149, R150, R153, R164) -/

/-- R149: a temperature record of HEAT_GET. Before the first arrival its age is sent as absent, the model's choice (log entry 32). -/
def State.tempFields (s : State) (r : TempRecord) : List Word :=
  [optInt r.value, twoWay r.reading.isSome, s.ageField (r.value.map fun _ => r.stamp)]

/-- HEAT_GET (R164). The temperature records repeat in the body, so their count comes before them (section 10.7). -/
def State.heatFields (s : State) : List Word :=
  let f := s.fhc
  let t := f.temps
  heatSettingFields s.cfg.heat s.cfg.frostFill ++ numField 5 :: [t.ambient, t.riser, t.overflow, t.pit, t.sensor].flatMap s.tempFields ++
  [numField f.season.code, numField f.cold, numField f.warm, numField f.valid, s.timerField f.seasonTimer,
   numField (pathCode f.pathProven), numField s.budget]

def State.zoneFields (s : State) (z : Zone) : List Word :=
  let c := s.cfg.zones.get z
  let r := s.fhc.zones.get z
  [intField c.onT, intField c.offT, numField c.powerW, numField c.priority, twoWay c.enabled, numField r.state.code, twoWay r.need,
   if r.boost then 4 else 0, optWord r.onSince, optInt r.onTemp, runsField r.minOn, runsField r.confirm,
   optNum (r.proof.map Proof.code)]

/-- ZONE_GET (R153, R192). With zone and part number both out of range the zone is named, the model's choice (log entry 44). -/
def State.zoneReply (s : State) (zone part : Int) : Answer :=
  if !inRange 0 4 zone then badValue 0
  else if zone = 0 then partReply 1 part 4 fun n => s.zoneFields (zoneOf (n + 1))
  else partReply 1 part 1 fun _ => s.zoneFields (zoneOf zone.toNat)

end Sys2Proof.Machine
end

