-- ==== Sys2Proof/Machine/Requests.lean ====
section
/-! DEFINITION. The owners' judgement of each request: one operation for each, from the fields of its body to the answer and the state. -/
namespace Sys2Proof.Machine

/-- The working settings change through an accepted SET request (R193). -/
def setWorking (w : Settings) (s : State) : State := s.withSst { s.sst with working := w }

/-- A SET request whose fields each have a range: BAD_VALUE with the first bad field, INCONSISTENT, or acceptance. -/
def judgeSet (bad : Option Nat) (consistent : Bool) (accepted : State → State) (s : State) : Answer × State :=
  match bad with
  | some i => (badValue i, s)
  | none => if consistent then (acceptEmpty, accepted s) else (inconsistent, s)

/-- R24: SENSOR_SET. -/
def sensorSet (fs : List Word) (s : State) : Answer × State :=
  let new := parseSensor fs
  judgeSet (sensorBad fs) (decide (new.aZero < new.aFull))
    (fun s => sensorChange s.cfg.lmu new (setWorking { s.cfg with lmu := new } s)) s

/-- R20: STRAP_SET; the change is handed to the Overflow Guard. -/
def strapSet (bytes : Nat) (fs : List Word) (s : State) : Answer × State :=
  match strapCheck bytes fs with
  | some a => (a, s)
  | none => (acceptEmpty, recomputeCeiling (setWorking { s.cfg with strap := parsePoints fs.tail } s))

/-- R51: GUARD_SET. -/
def guardSet (fs : List Word) (s : State) : Answer × State :=
  let new := parseGuard fs
  judgeSet (firstBad fs 0 guardRanges) (guardConsistent new)
    (fun s => guardChange (setWorking { s.cfg with ofg := new } s)) s

/-- R69: VALVE_SET. -/
def valveSet (fs : List Word) (s : State) : Answer × State :=
  judgeSet (firstBad fs 0 valveRanges) true (fun s => setWorking { s.cfg with valve := parseValve fs } s) s

/-- R146: LINE_SET. -/
def lineSet (fs : List Word) (s : State) : Answer × State :=
  judgeSet (firstBad fs 0 lineRanges) true
    (fun s => lineChange s.cfg.line (setWorking { s.cfg with line := parseLine fs, supply := parseSupply fs } s)) s

/-- R75, R76: TARIFF_SET. -/
def tariffSet (bytes : Nat) (fs : List Word) (s : State) : Answer × State :=
  match tariffCheck bytes fs with
  | some a => (a, s)
  | none => (acceptEmpty, judgeBand .tariffSet (setWorking { s.cfg with calendar := parseWindows fs.tail } s))

/-- R101, R102: PLAN_SET with forget_rate. -/
def planSet (fs : List Word) (s : State) : Answer × State :=
  judgeSet (firstBad fs 0 planRanges) true
    (fun s =>
      let s := setWorking { s.cfg with plan := parsePlan fs } s
      if firstAt fs 6 then forgetRate s else s) s

/-- R163, R164: HEAT_SET. -/
def heatSet (fs : List Word) (s : State) : Answer × State :=
  let new := parseHeat fs
  judgeSet (firstBad fs 0 heatRanges) (decide (new.frostOnT < new.frostOffT))
    (fun s => heatChange (setWorking { s.cfg with heat := new, frostFill := parseFrostFill fs } s)) s

/-- R165: ZONE_SET. -/
def zoneSet (fs : List Word) (s : State) : Answer × State :=
  let z := zoneOf (natAt fs 0)
  let new := parseZone fs
  judgeSet (firstBad fs 0 zoneRanges) (decide (new.onT < new.offT))
    (fun s => zoneChange z (setWorking { s.cfg with zones := s.cfg.zones.put z new } s)) s

/-- R180: HISTORY_SET. -/
def historySet (fs : List Word) (s : State) : Answer × State :=
  judgeSet (firstBad fs 0 historyRanges) true (fun s => historyChange (parseHistory fs) s) s

/-- R64, R44: the valve's fault record is emptied. With PASSING in it the guard's pass count starts afresh, so a valve that goes on passing is
noted again pass_n counting samples later; with PASSING not in it the count goes on (log entry 43). -/
def emptyFaults (s : State) : State :=
  let passing := s.ivd.faults.passing.isSome
  (s.withIvd { s.ivd with faults := {} }).withOfg { s.ofg with passCount := if passing then 0 else s.ofg.passCount }

/-- R64: FAULT_CLEAR naming the valve. -/
def clearValve (s : State) : Answer × State :=
  if s.ivd.state = .closed then
    if s.ivd.faults.isEmpty then (acceptEmpty, s)
    else (acceptEmpty, startCheck ((emptyFaults s).raise .valve [3]))
  else (badState, s)

/-- R64, R162: FAULT_CLEAR. -/
def faultClear (fs : List Word) (s : State) : Answer × State :=
  if !inRange 0 4 (intAt fs 0) then (badValue 0, s)
  else if intAt fs 0 = 0 then clearValve s
  else (acceptEmpty, clearZone (zoneOf (natAt fs 0)) s)

/-- R143: LINE_STATS. -/
def lineStats (s : State) : Answer × State :=
  (acceptFields s.lineStatFields, s.withSli { s.sli with lastError := .noNew, logCount := 0, logFull := false })

/-- R77: CLOCK_SET. With both fields out of range the day is named, the model's choice (log entry 44). -/
def clockSet (fs : List Word) (s : State) : Answer × State :=
  match firstBad fs 0 [(0, 6), (0, 86399)] with
  | some i => (badValue i, s)
  | none => (acceptEmpty, setClock ⟨natAt fs 0, natAt fs 1⟩ s)

/-- R108: FILL_NOW with a level. -/
def fillNowLevel (level : Nat) (s : State) : Answer × State :=
  match volumeAt s.cfg.strap level with
  | none => (badState, s)
  | some v =>
    let target := s.cap v
    (acceptFields [numField target, optNum (levelAt s.cfg.strap target), if target < v then 1 else 0], manualDemand level v s)

/-- R108: FILL_NOW. -/
def fillNow (fs : List Word) (s : State) : Answer × State :=
  if fs.getD 0 0 = absentField then (acceptEmpty, manualCancel s)
  else if !inRange 0 20000 (intAt fs 0) then (badValue 0, s)
  else fillNowLevel (natAt fs 0) s

/-- R123: FILL_HOLD. -/
def fillHold (fs : List Word) (s : State) : Answer × State :=
  if !inRange 0 1 (intAt fs 0) then (badValue 0, s) else (acceptEmpty, setHostHold (firstAt fs 0) s)

/-- R177: HISTORY_READ. -/
def historyRead (fs : List Word) (s : State) : Answer × State :=
  if !inRange 0 1 (intAt fs 1) then (badValue 1, s)
  else
    let full := firstAt fs 1
    let n := readCount (intAt fs 0) full
    let r := s.trc
    (.accept (readBody full (r.queue.take n) (r.queue.drop n).length r.overrun),
      s.withTrc ({ r with queue := r.queue.drop n, overrun := 0 }.settle s.cfg.history.watermark))

/-- R179: HISTORY_FLUSH. -/
def historyFlush (s : State) : Answer × State := (acceptEmpty, s.withTrc s.trc.flush)

/-- R188: NOTICE_MASK. -/
def noticeMask (mask : Word) (s : State) : Answer × State :=
  if mask.toNat < 4194304 then (acceptFields [mask], s.withSvp { s.svp with mask := mask.setWidth 22 }) else (badValue 0, s)

/-- A request that only reads. -/
def readOnly (a : Answer) (s : State) : Answer × State := (a, s)

/-! ### The request kinds (section 10.7) -/

/-- What a kind's body allows (R185): a length, or at least the count field. -/
inductive BodyForm where
  | exact (bytes : Nat)
  | counted
  deriving DecidableEq, Repr

def BodyForm.allows : BodyForm → Nat → Bool
  | .exact n, bytes => decide (bytes = n)
  | .counted, bytes => decide (4 ≤ bytes)

/-- The body of each request kind; none for every other kind. -/
def bodyForm (kind : Byte) : Option BodyForm :=
  match kind.toNat with
  | 0x01 | 0x02 | 0x04 | 0x06 | 0x09 | 0x0C | 0x0F | 0x10 | 0x12 | 0x14 | 0x16 | 0x17 | 0x1D | 0x22 | 0x24 | 0x26 | 0x27 =>
    some (.exact 0)
  | 0x08 | 0x0D | 0x18 | 0x19 | 0x1A | 0x1B | 0x23 | 0x25 => some (.exact 4)
  | 0x0A | 0x11 | 0x1F | 0x21 => some (.exact 8)
  | 0x0B => some (.exact 16)
  | 0x1E | 0x20 => some (.exact 24)
  | 0x15 => some (.exact 28)
  | 0x0E => some (.exact 40)
  | 0x1C => some (.exact 52)
  | 0x07 => some (.exact 64)
  | 0x03 => some (.exact 72)
  | 0x05 | 0x13 => some .counted
  | _ => none

/-- R195: the requests refused as BUSY while a commit is in flight. -/
def waitsForCommit (kind : Byte) : Bool :=
  [0x03, 0x05, 0x07, 0x0B, 0x0E, 0x13, 0x15, 0x1C, 0x1E, 0x20, 0x24, 0x27].contains kind.toNat

/-- R185, step 3: the owner of a kind judges the request. -/
def owner (kind : Byte) (bytes : Nat) (fs : List Word) (s : State) : Answer × State :=
  match kind.toNat with
  | 0x01 => readOnly (.accept s.statusBody) s
  | 0x02 => readOnly (acceptFields s.levelFields) s
  | 0x03 => sensorSet fs s
  | 0x04 => readOnly (acceptFields (sensorFields s.cfg.lmu)) s
  | 0x05 => strapSet bytes fs s
  | 0x06 => readOnly (acceptFields (strapFields s.cfg.strap)) s
  | 0x07 => guardSet fs s
  | 0x08 => readOnly (s.guardReply (intAt fs 0)) s
  | 0x09 => guardClear s
  | 0x0A => guardTestStart fs s
  | 0x0B => valveSet fs s
  | 0x0C => readOnly (acceptFields s.valveFields) s
  | 0x0D => faultClear fs s
  | 0x0E => lineSet fs s
  | 0x0F => readOnly (acceptFields s.lineFields) s
  | 0x10 => lineStats s
  | 0x11 => clockSet fs s
  | 0x12 => readOnly (acceptFields s.clockFields) s
  | 0x13 => tariffSet bytes fs s
  | 0x14 => readOnly (acceptFields (tariffFields s.cfg.calendar)) s
  | 0x15 => planSet fs s
  | 0x16 => readOnly (acceptFields (planSettingFields s.cfg.plan ++ [optNum s.fpl.learned])) s
  | 0x17 => readOnly (acceptFields s.planFields) s
  | 0x18 => readOnly (s.daysReply (intAt fs 0)) s
  | 0x19 => readOnly (s.fillsReply (intAt fs 0)) s
  | 0x1A => fillNow fs s
  | 0x1B => fillHold fs s
  | 0x1C => heatSet fs s
  | 0x1D => readOnly (acceptFields s.heatFields) s
  | 0x1E => zoneSet fs s
  | 0x1F => readOnly (s.zoneReply (intAt fs 0) (intAt fs 1)) s
  | 0x20 => historySet fs s
  | 0x21 => historyRead fs s
  | 0x22 => historyFlush s
  | 0x23 => noticeMask (fs.getD 0 0) s
  | 0x24 => commit s
  | 0x25 => quiesce (fs.getD 0 0) s
  | 0x26 => resume s
  | _ => restart s

/-- R185, R195: a request is judged. -/
def judgeRequest (r : Request) (s : State) : Answer × State :=
  match bodyForm r.kind with
  | none => (.refuse .unknownKind [], s)
  | some form =>
    if !form.allows r.body.length then (.refuse .badLength [], s)
    else if waitsForCommit r.kind && s.sst.writing.isSome then (busyCommit, s)
    else owner r.kind r.body.length (bytesFields r.body) s

end Sys2Proof.Machine
end

