-- ==== Sys2Proof/Machine/Service.lean ====
section
/-! DEFINITION. Service Port (chapter 10): placing and serving requests, replies, the end of a frame, the byte receiver. -/
namespace Sys2Proof.Machine

/-- An error count of 0..65535, saturating (R183). -/
def countUp (n : Nat) : Nat := min 65535 (n + 1)

/-! ### Serving (R184 to R186) -/

/-- R186: an answer as a reply. -/
def replyOf (r : Request) (a : Answer) (number : Nat) : Reply :=
  match a with
  | .accept body => ⟨r.kind ||| 0x80, r.tag, body, number⟩
  | .refuse reason detail => ⟨0x7F, r.tag, r.kind :: reason.code :: detail, number⟩

/-- R185, R189: the reply is placed in the reply slot, where the arbiter finds it. -/
def placeReply (r : Request) (a : Answer) (s : State) : State :=
  let v := s.svp
  s.withSvp { v with reply := some (replyOf r a v.formed), formed := v.formed + 1 }.arbitrate

/-- R185: a request is served. -/
def serve (r : Request) (s : State) : State :=
  let (a, s) := judgeRequest r s
  placeReply r a s

/-- R184: the refusal BUSY with detail QUEUE is placed in the busy slot. -/
def placeBusy (r : Request) (s : State) : State :=
  let v := s.svp
  s.withSvp { v with busy := some (replyOf r (.refuse .busy [0]) v.formed), formed := v.formed + 1 }.arbitrate

/-- R184: a request is placed. -/
def placeRequest (r : Request) (s : State) : State :=
  let v := s.svp
  if v.reply.isNone && v.queue.isEmpty then serve r s
  else if v.queue.length < 2 then s.withSvp { v with queue := v.queue ++ [r] }
  else if v.busy.isNone then placeBusy r s
  else s.withSvp { v with dropped := countUp v.dropped }

/-- The request of a kind, a tag and the fields of its body, as its good frame brings it in (log entry 1). -/
def request (kind tag : Byte) (fields : List Word) (s : State) : State := placeRequest ⟨kind, tag, fieldBytes fields⟩ s

/-! ### The end of a frame (R185, R189) -/

/-- R185: the oldest waiting request is served as the reply slot empties. -/
def serveNext (s : State) : State :=
  match s.svp.queue with
  | r :: rest => serve r (s.withSvp { s.svp with queue := rest })
  | [] => s

/-- R189: the transmitter is free, and the arbiter chooses. -/
def freeLine (s : State) : State := s.withSvp { s.svp with tx := none }.arbitrate

/-- R185, R189, R197: the last byte of a frame has been sent. With no frame on the line nothing happens, the model's choice (log entry 46). -/
def frameSent (s : State) : State :=
  match s.svp.tx with
  | none => s
  | some f =>
    match f.source with
    | .notice => freeLine s
    | .busy => freeLine (s.withSvp { s.svp with busy := none })
    | .reply =>
      if f.kind = 0xA7 then restartEffect s
      else freeLine (serveNext (s.withSvp { s.svp with reply := none }))

/-! ### Frames and bytes from the host (R182, R183) -/

/-- R183: a completed frame is judged. -/
def takeServiceFrame (kind tag : Byte) (body : List Byte) (check : BitVec 16) (s : State) : State :=
  if crc16 (byteOf body.length :: kind :: tag :: body) = check then placeRequest ⟨kind, tag, body⟩ s
  else s.withSvp { s.svp with checkErrors := countUp s.svp.checkErrors }

/-- A frame completes: the receiver returns to HUNT with its timer stopped (R182). -/
def serviceFrame (kind tag : Byte) (body : List Byte) (check : BitVec 16) (s : State) : State :=
  takeServiceFrame kind tag body check (s.withSvp { s.svp with rx := .hunt, gapRunning := false })

/-- The receiver stands in a state inside a frame, with the gap timer loaded. -/
def receiving (rx : ServiceRx) (s : State) : State := s.withSvp { s.svp with rx := rx, gapRunning := true }

/-- R182: the receiver takes a byte. -/
def serviceByte (b : Byte) (s : State) : State :=
  match s.svp.rx with
  | .hunt => if b = 0xA5 then receiving (.header []) s else s
  | .header taken =>
    match taken with
    | [] =>
      if 200 < b.toNat then
        s.withSvp { s.svp with rx := .hunt, gapRunning := false, lengthErrors := countUp s.svp.lengthErrors }
      else receiving (.header [b]) s
    | [length] => receiving (.header [length, b]) s
    | length :: kind :: _ =>
      receiving (if length = 0 then .check kind b [] [] else .body length.toNat kind b []) s
  | .body length kind tag taken =>
    let taken' := taken ++ [b]
    receiving (if taken'.length < length then .body length kind tag taken' else .check kind tag taken' []) s
  | .check kind tag body taken =>
    match taken with
    | [] => receiving (.check kind tag body [b]) s
    | high :: _ => serviceFrame kind tag body (high ++ b) s

/-- R182: the gap timer expires. -/
def gapExpiry (s : State) : State :=
  if s.svp.gapRunning then
    s.withSvp { s.svp with rx := .hunt, gapRunning := false, gapErrors := countUp s.svp.gapErrors }
  else s

end Sys2Proof.Machine
end

