-- ==== Sys2Proof/Machine/FieldEvents.lean ====
section
/-! DEFINITION. The meanings of the field events, the timer expiries, and the bytes, bits and frames of the two lines: one for each command.
A command that can hand an event to several blocks draws their order first (log entry 4). -/
namespace Sys2Proof.Machine

abbrev Result := Host.Outcome State Fault Refusal

/-- R5: a sample record at one receiver. -/
def takeSample (b : Block) (s : State) : State :=
  match b with
  | .ofg => guardSample s
  | .fsq => sequenceSample s
  | .trc => recorderSample s
  | .fhc => heatingSample s
  | _ => s

/-- R5: the sample timer expires. -/
def sampleTaken (s : State) : State := (lmuSample s).handTo [.ofg, .fsq, .trc, .fhc] takeSample

/-- R55: a change at the limit inputs, with what the driver hands over. -/
def limitChange (p : LimitPattern) (s : State) : State := deliverValve (valveLimits p s)

/-- R60: the watchdog expires, with what the driver hands over. -/
def watchdogExpired (s : State) : State := deliverValve (watchdogExpiry s)

/-- R58: the re-prove timer expires, with what the driver hands over. -/
def reproveExpired (s : State) : State := deliverValve (reproveExpiry s)

/-- R120, R145: the release timer expires; the SLI judges uncalled supply as the fill stands in RELEASING. -/
def releaseExpired (s : State) : State := releaseExpiry (judgeRelease s)

/-- R196: POWER_ON. The inputs as they stand are the command's operands. -/
def execPowerOn (limits : LimitPattern) (spill : SpillState) (s : State) : Result := .next (powerOn limits spill s.drawOrder)

/-- R1. -/
def execHeadSensorArrival (count : Nat) (s : State) : Result := .next (headArrival count s)

/-- R2. -/
def execRangeSensorArrival (distance : Option Nat) (s : State) : Result := .next (rangeArrival distance s)

/-- R5: the sample forms and goes to the four blocks that take it. -/
def execSampleTimerExpiry (s : State) : Result := .next (sampleTaken s.drawOrder)

/-- R27. -/
def execSpillSwitchChange (spill : SpillState) (s : State) : Result := .next (spillChange spill s)

/-- R55. -/
def execLimitChange (limits : LimitPattern) (s : State) : Result := .next (limitChange limits s.drawOrder)

/-- R60. -/
def execWatchdogExpiry (s : State) : Result := .next (watchdogExpired s.drawOrder)

/-- R58. -/
def execReproveExpiry (s : State) : Result := .next (reproveExpired s.drawOrder)

/-- R66. -/
def execMeterPulse (s : State) : Result := .next (meterPulse s.drawOrder)

/-- R68. -/
def execStallTimerExpiry (s : State) : Result := .next (stallExpiry s.drawOrder)

/-- R71. -/
def execAdvance (s : State) : Result := .next (advance s.drawOrder)

/-- R148. -/
def execTemperatureArrival (port : TempPort) (value : Int) (s : State) : Result := .next (temperatureArrival port value s.drawOrder)

/-- R148. -/
def execValidityTimerExpiry (port : TempPort) (s : State) : Result := .next (validityExpiry port s.drawOrder)

/-- R150. -/
def execSeasonStep (s : State) : Result := .next (seasonStep s.drawOrder)

/-- R157. -/
def execStartTimerExpiry (s : State) : Result := .next (startExpiry s)

/-- R160. -/
def execMinOnExpiry (zone : Zone) (s : State) : Result := .next (minOnExpiry zone s)

/-- R161. -/
def execConfirmExpiry (zone : Zone) (s : State) : Result := .next (confirmExpiry zone s)

/-- R112. -/
def execPrepareTimerExpiry (s : State) : Result := .next (prepareExpiry s.drawOrder)

/-- R114. -/
def execCallTimerExpiry (s : State) : Result := .next (callExpiry s.drawOrder)

/-- R120, R145. -/
def execReleaseTimerExpiry (s : State) : Result := .next (releaseExpired s.drawOrder)

/-- R122. -/
def execRetryTimerExpiry (s : State) : Result := .next (retryExpiry s.drawOrder)

/-- R107. -/
def execTurnoverTimerExpiry (s : State) : Result := .next (turnoverExpiry s.drawOrder)

/-- R131. -/
def execLinePeriodExpiry (s : State) : Result := .next (linePeriod s)

/-- R134. -/
def execStationFrame (address : BitVec 6) (code : BitVec 4) (check : BitVec 8) (s : State) : Result := .next (stationFrame address code check s.drawOrder)

/-- R138. -/
def execSilenceTimerExpiry (s : State) : Result := .next (silenceExpiry s.drawOrder)

/-- R183. -/
def execServiceFrame (kind tag : Byte) (body : List Byte) (check : BitVec 16) (s : State) : Result := .next (serviceFrame kind tag body check s.drawOrder)

/-- R182. -/
def execGapTimerExpiry (s : State) : Result := .next (gapExpiry s)

/-- R176. -/
def execCollectTimerExpiry (s : State) : Result := .next (collectExpiry s)

/-- R194. -/
def execWriteComplete (result : WriteResult) (s : State) : Result := .next (writeComplete result s.drawOrder)

/-- R189. -/
def execFrameSent (s : State) : Result := .next (frameSent s.drawOrder)

/-- R182. -/
def execServiceByte (byte : Byte) (s : State) : Result := .next (serviceByte byte s.drawOrder)

/-- R133. -/
def execStationBit (bit : Bool) (s : State) : Result := .next (stationBit bit s.drawOrder)

/-- R133. -/
def execBurstEnd (s : State) : Result := .next (burstEnd s.drawOrder)

end Sys2Proof.Machine
end

