-- ==== Sys2Proof/Machine/HostRequests.lean ====
section
/-! DEFINITION. The meanings of the host's requests: one for each command. Each is the good frame that carries the request, placed by R184
(log entry 1); the kinds are those of section 10.7, and the rule named is the owner's. -/
namespace Sys2Proof.Machine

/-- R190. -/
def execStatusGet (tag : Byte) (s : State) : Result := .next (request 0x01 tag [] s)

/-- R6. -/
def execLevelGet (tag : Byte) (s : State) : Result := .next (request 0x02 tag [] s)

/-- R24. -/
def execSensorSet (tag : Byte) (fields : List Word) (s : State) : Result := .next (request 0x03 tag fields s)

/-- R24. -/
def execSensorGet (tag : Byte) (s : State) : Result := .next (request 0x04 tag [] s)

/-- R20. -/
def execStrapSet (tag : Byte) (fields : List Word) (s : State) : Result := .next (request 0x05 tag fields s.drawOrder)

/-- R20. -/
def execStrapGet (tag : Byte) (s : State) : Result := .next (request 0x06 tag [] s)

/-- R51. -/
def execGuardSet (tag : Byte) (fields : List Word) (s : State) : Result := .next (request 0x07 tag fields s.drawOrder)

/-- R26. -/
def execGuardGet (tag : Byte) (part : Word) (s : State) : Result := .next (request 0x08 tag [part] s)

/-- R43. -/
def execGuardClear (tag : Byte) (s : State) : Result := .next (request 0x09 tag [] s.drawOrder)

/-- R48. -/
def execGuardTest (tag : Byte) (offset count : Word) (s : State) : Result := .next (request 0x0A tag [offset, count] s)

/-- R69. -/
def execValveSet (tag : Byte) (fields : List Word) (s : State) : Result := .next (request 0x0B tag fields s)

/-- R54. -/
def execValveGet (tag : Byte) (s : State) : Result := .next (request 0x0C tag [] s)

/-- R64. -/
def execFaultClearValve (tag : Byte) (s : State) : Result := .next (request 0x0D tag [0] s.drawOrder)

/-- R162. -/
def execFaultClearZone (tag : Byte) (zone : Word) (s : State) : Result := .next (request 0x0D tag [zone] s)

/-- R146. -/
def execLineSet (tag : Byte) (fields : List Word) (s : State) : Result := .next (request 0x0E tag fields s)

/-- R128. -/
def execLineGet (tag : Byte) (s : State) : Result := .next (request 0x0F tag [] s)

/-- R143. -/
def execLineStats (tag : Byte) (s : State) : Result := .next (request 0x10 tag [] s)

/-- R77. -/
def execClockSet (tag : Byte) (day seconds : Word) (s : State) : Result := .next (request 0x11 tag [day, seconds] s.drawOrder)

/-- R71. -/
def execClockGet (tag : Byte) (s : State) : Result := .next (request 0x12 tag [] s)

/-- R75. -/
def execTariffSet (tag : Byte) (fields : List Word) (s : State) : Result := .next (request 0x13 tag fields s.drawOrder)

/-- R76. -/
def execTariffGet (tag : Byte) (s : State) : Result := .next (request 0x14 tag [] s)

/-- R102. -/
def execPlanSet (tag : Byte) (fields : List Word) (s : State) : Result := .next (request 0x15 tag fields s)

/-- R102. -/
def execPlanGet (tag : Byte) (s : State) : Result := .next (request 0x16 tag [] s)

/-- R92. -/
def execPlanShow (tag : Byte) (s : State) : Result := .next (request 0x17 tag [] s)

/-- R85. -/
def execDaysGet (tag : Byte) (part : Word) (s : State) : Result := .next (request 0x18 tag [part] s)

/-- R125. -/
def execFillsGet (tag : Byte) (part : Word) (s : State) : Result := .next (request 0x19 tag [part] s)

/-- R108. -/
def execFillNow (tag : Byte) (level : Word) (s : State) : Result := .next (request 0x1A tag [level] s.drawOrder)

/-- R108. -/
def execFillNowCancel (tag : Byte) (s : State) : Result := .next (request 0x1A tag [absentField] s.drawOrder)

/-- R123. -/
def execFillHoldOn (tag : Byte) (s : State) : Result := .next (request 0x1B tag [0] s.drawOrder)

/-- R123. -/
def execFillHoldOff (tag : Byte) (s : State) : Result := .next (request 0x1B tag [1] s.drawOrder)

/-- R163. -/
def execHeatSet (tag : Byte) (fields : List Word) (s : State) : Result := .next (request 0x1C tag fields s.drawOrder)

/-- R164. -/
def execHeatGet (tag : Byte) (s : State) : Result := .next (request 0x1D tag [] s)

/-- R165. -/
def execZoneSet (tag : Byte) (fields : List Word) (s : State) : Result := .next (request 0x1E tag fields s)

/-- R153. -/
def execZoneGet (tag : Byte) (zone part : Word) (s : State) : Result := .next (request 0x1F tag [zone, part] s)

/-- R180. -/
def execHistorySet (tag : Byte) (fields : List Word) (s : State) : Result := .next (request 0x20 tag fields s)

/-- R177. -/
def execHistoryRead (tag : Byte) (count form : Word) (s : State) : Result := .next (request 0x21 tag [count, form] s)

/-- R179. -/
def execHistoryFlush (tag : Byte) (s : State) : Result := .next (request 0x22 tag [] s)

/-- R188. -/
def execNoticeMask (tag : Byte) (mask : Word) (s : State) : Result := .next (request 0x23 tag [mask] s)

/-- R194. -/
def execCommit (tag : Byte) (s : State) : Result := .next (request 0x24 tag [] s)

/-- R198. -/
def execQuiesce (tag : Byte) (keepHeat : Word) (s : State) : Result := .next (request 0x25 tag [keepHeat] s.drawOrder)

/-- R200. -/
def execResume (tag : Byte) (s : State) : Result := .next (request 0x26 tag [] s.drawOrder)

/-- R197. -/
def execRestart (tag : Byte) (s : State) : Result := .next (request 0x27 tag [] s)

end Sys2Proof.Machine
end

