-- ==== Sys2Proof/Machine/Dispatch.lean ====
section
/-! DEFINITION. The meaning of each command: one arm per constructor of Instr, one row of the operation table each. -/
namespace Sys2Proof.Machine

def exec (i : Instr) (s : State) : Host.Outcome State Fault Refusal :=
  match i with
  | .powerOn limits spill => Sys2Proof.Machine.execPowerOn limits spill s
  | .headSensorArrival count => Sys2Proof.Machine.execHeadSensorArrival count s
  | .rangeSensorArrival distance => Sys2Proof.Machine.execRangeSensorArrival distance s
  | .sampleTimerExpiry => Sys2Proof.Machine.execSampleTimerExpiry s
  | .spillSwitchChange spill => Sys2Proof.Machine.execSpillSwitchChange spill s
  | .limitChange limits => Sys2Proof.Machine.execLimitChange limits s
  | .watchdogExpiry => Sys2Proof.Machine.execWatchdogExpiry s
  | .reproveExpiry => Sys2Proof.Machine.execReproveExpiry s
  | .meterPulse => Sys2Proof.Machine.execMeterPulse s
  | .stallTimerExpiry => Sys2Proof.Machine.execStallTimerExpiry s
  | .advance => Sys2Proof.Machine.execAdvance s
  | .temperatureArrival port value => Sys2Proof.Machine.execTemperatureArrival port value s
  | .validityTimerExpiry port => Sys2Proof.Machine.execValidityTimerExpiry port s
  | .seasonStep => Sys2Proof.Machine.execSeasonStep s
  | .startTimerExpiry => Sys2Proof.Machine.execStartTimerExpiry s
  | .minOnExpiry zone => Sys2Proof.Machine.execMinOnExpiry zone s
  | .confirmExpiry zone => Sys2Proof.Machine.execConfirmExpiry zone s
  | .prepareTimerExpiry => Sys2Proof.Machine.execPrepareTimerExpiry s
  | .callTimerExpiry => Sys2Proof.Machine.execCallTimerExpiry s
  | .releaseTimerExpiry => Sys2Proof.Machine.execReleaseTimerExpiry s
  | .retryTimerExpiry => Sys2Proof.Machine.execRetryTimerExpiry s
  | .turnoverTimerExpiry => Sys2Proof.Machine.execTurnoverTimerExpiry s
  | .linePeriodExpiry => Sys2Proof.Machine.execLinePeriodExpiry s
  | .stationFrame address code check => Sys2Proof.Machine.execStationFrame address code check s
  | .silenceTimerExpiry => Sys2Proof.Machine.execSilenceTimerExpiry s
  | .serviceFrame kind tag body check => Sys2Proof.Machine.execServiceFrame kind tag body check s
  | .gapTimerExpiry => Sys2Proof.Machine.execGapTimerExpiry s
  | .collectTimerExpiry => Sys2Proof.Machine.execCollectTimerExpiry s
  | .writeComplete result => Sys2Proof.Machine.execWriteComplete result s
  | .frameSent => Sys2Proof.Machine.execFrameSent s
  | .statusGet tag => Sys2Proof.Machine.execStatusGet tag s
  | .levelGet tag => Sys2Proof.Machine.execLevelGet tag s
  | .sensorSet tag fields => Sys2Proof.Machine.execSensorSet tag fields s
  | .sensorGet tag => Sys2Proof.Machine.execSensorGet tag s
  | .strapSet tag fields => Sys2Proof.Machine.execStrapSet tag fields s
  | .strapGet tag => Sys2Proof.Machine.execStrapGet tag s
  | .guardSet tag fields => Sys2Proof.Machine.execGuardSet tag fields s
  | .guardGet tag part => Sys2Proof.Machine.execGuardGet tag part s
  | .guardClear tag => Sys2Proof.Machine.execGuardClear tag s
  | .guardTest tag offset count => Sys2Proof.Machine.execGuardTest tag offset count s
  | .valveSet tag fields => Sys2Proof.Machine.execValveSet tag fields s
  | .valveGet tag => Sys2Proof.Machine.execValveGet tag s
  | .faultClearValve tag => Sys2Proof.Machine.execFaultClearValve tag s
  | .faultClearZone tag zone => Sys2Proof.Machine.execFaultClearZone tag zone s
  | .lineSet tag fields => Sys2Proof.Machine.execLineSet tag fields s
  | .lineGet tag => Sys2Proof.Machine.execLineGet tag s
  | .lineStats tag => Sys2Proof.Machine.execLineStats tag s
  | .clockSet tag day seconds => Sys2Proof.Machine.execClockSet tag day seconds s
  | .clockGet tag => Sys2Proof.Machine.execClockGet tag s
  | .tariffSet tag fields => Sys2Proof.Machine.execTariffSet tag fields s
  | .tariffGet tag => Sys2Proof.Machine.execTariffGet tag s
  | .planSet tag fields => Sys2Proof.Machine.execPlanSet tag fields s
  | .planGet tag => Sys2Proof.Machine.execPlanGet tag s
  | .planShow tag => Sys2Proof.Machine.execPlanShow tag s
  | .daysGet tag part => Sys2Proof.Machine.execDaysGet tag part s
  | .fillsGet tag part => Sys2Proof.Machine.execFillsGet tag part s
  | .fillNow tag level => Sys2Proof.Machine.execFillNow tag level s
  | .fillNowCancel tag => Sys2Proof.Machine.execFillNowCancel tag s
  | .fillHoldOn tag => Sys2Proof.Machine.execFillHoldOn tag s
  | .fillHoldOff tag => Sys2Proof.Machine.execFillHoldOff tag s
  | .heatSet tag fields => Sys2Proof.Machine.execHeatSet tag fields s
  | .heatGet tag => Sys2Proof.Machine.execHeatGet tag s
  | .zoneSet tag fields => Sys2Proof.Machine.execZoneSet tag fields s
  | .zoneGet tag zone part => Sys2Proof.Machine.execZoneGet tag zone part s
  | .historySet tag fields => Sys2Proof.Machine.execHistorySet tag fields s
  | .historyRead tag count form => Sys2Proof.Machine.execHistoryRead tag count form s
  | .historyFlush tag => Sys2Proof.Machine.execHistoryFlush tag s
  | .noticeMask tag mask => Sys2Proof.Machine.execNoticeMask tag mask s
  | .commit tag => Sys2Proof.Machine.execCommit tag s
  | .quiesce tag keepHeat => Sys2Proof.Machine.execQuiesce tag keepHeat s
  | .resume tag => Sys2Proof.Machine.execResume tag s
  | .restart tag => Sys2Proof.Machine.execRestart tag s
  | .serviceByte byte => Sys2Proof.Machine.execServiceByte byte s
  | .stationBit bit => Sys2Proof.Machine.execStationBit bit s
  | .burstEnd => Sys2Proof.Machine.execBurstEnd s

end Sys2Proof.Machine
end

