-- ==== Sys2Proof/Safety.lean ====
section
/-! DEFINITION. What the statements speak of: a step that goes on, properties that every step keeps, a request that is served at once and its
reply, a run of bits at the line receiver, and the invariants. -/
namespace Sys2Proof.Machine

/-- A step that goes on: neither a fault nor a refusal. -/
def Safe (s : State) : Prop := ∃ t, step s = .next t

/-- A property that every step keeps, from every state that has it. -/
def Kept (Inv : State → Prop) : Prop := ∀ s t, Inv s → step s = .next t → Inv t

/-! ### Requests and replies -/

/-- R184: the reply slot and the receive queue are empty, so a request is served at once. -/
def State.free (s : State) : Prop := s.svp.reply = none ∧ s.svp.queue = []

/-- R194: the commit state is IDLE. -/
def State.commitIdle (s : State) : Prop := s.sst.writing = none

/-- R185, R189: a reply is formed, placed in the reply slot, and offered to the transmit line. -/
def State.answered (s : State) (kind tag : Byte) (body : List Byte) : State :=
  s.withSvp { s.svp with reply := some ⟨kind, tag, body, s.svp.formed⟩, formed := s.svp.formed + 1 }.arbitrate

/-- R186: a refusal of a request of some kind, with its reason's code and detail. -/
def State.refused (s : State) (tag kind reason : Byte) (detail : List Byte) : State :=
  s.answered 0x7F tag (kind :: reason :: detail)

/-- The reply slot holds a reply of a kind, a tag and a body. -/
def State.replied (s : State) (kind tag : Byte) (body : List Byte) : Prop := ∃ n, s.svp.reply = some ⟨kind, tag, body, n⟩

/-- The state with the model's own order of hand-overs and count of draws as in another (log entry 4). -/
def State.drawnAs (t s : State) : State := (t.withOrder s.order).withDraws s.draws

/-! ### Bits at the station line receiver -/

/-- R133: the receiver takes bits in turn; what they complete, in order. -/
def LineRx.feed : List Bool → LineRx → LineRx × List LineRxEvent
  | [], r => (r, [])
  | b :: bits, r =>
    let (r1, e) := r.take b
    let (r2, es) := LineRx.feed bits r1
    (r2, if e = .nothing then es else e :: es)

/-! ### The close of a fill record -/

/-- R109: the end cause of a failed fill. -/
def FillRecord.hasFailed (f : FillRecord) : Prop :=
  f.cause = some .callTimeout ∨ f.cause = some .stationBlocked ∨ f.cause = some .stationStopped ∨ f.cause = some .line ∨
    f.cause = some .valveFault

/-- R111: the conditions of a start that the Fill Sequencer does not meet by the close of a record itself. -/
def State.startOpen (s : State) : Prop :=
  s.ofg.granted = true ∧ s.ivd.faults.isEmpty = true ∧ s.sst.part = .running ∧ s.ofg.test = none ∧ s.fsq.hold = false ∧
    s.fsq.retryTimer = none

/-- R121, R122, R199: `t` is a state that `s` comes to when the valve proves closed and the record `f` of an ended fill closes: the journal, the
retry and turnover timers, the part state; then IDLE with the driver's record `v`, or, by the start check, the next fill (R111). The end uptime
as recorded at the close is the model's reading (log entry 20). -/
def State.closedFrom (t s : State) (f : FillRecord) (v : Ivd) : Prop :=
  t.fsq.journal = push 8 s.fsq.journal
    { f with tally := s.ifm.fillTally.getD 0, vEnd := s.lmu.sample.planningVolume, endUptime := some s.now } ∧
  (f.hasFailed → t.fsq.retryTimer = some ⟨s.now, s.cfg.supply.retryS⟩) ∧
  (s.cfg.frostFill.turnoverL ≤ s.ifm.fillTally.getD 0 →
    t.fsq.turnoverTimer = some ⟨s.now, s.cfg.frostFill.turnoverH * 3600⟩) ∧
  t.sst.part = (if s.sst.part = .quiescing then .quiet else s.sst.part) ∧
  (¬s.startOpen ∨ f.hasFailed ∨ s.working = none → t.ivd = v ∧ t.fsq.seq = .idle ∧ t.fsq.fill = none ∧ t.ifm.fillTally = none) ∧
  (∀ k target, s.startOpen → ¬f.hasFailed → s.working = some (k, target) → t.fsq.seq ≠ .idle ∧ t.ifm.fillTally = some 0 ∧
    ∃ g, t.fsq.fill = some g ∧ g.start = s.now ∧ g.kind = k ∧ g.targetStart = target ∧ g.vStart = s.lmu.sample.planningVolume)

/-! ### Where a field event arrives -/

/-- The block at which a field event, a timer expiry or a bit or frame of the station line arrives; none for power-on, the bytes and frames of
the service line, the write completion and the requests. -/
def arrivesAt : Instr → Option Block
  | .headSensorArrival _ | .rangeSensorArrival _ | .sampleTimerExpiry => some .lmu
  | .spillSwitchChange _ => some .ofg
  | .limitChange _ | .watchdogExpiry | .reproveExpiry => some .ivd
  | .meterPulse | .stallTimerExpiry => some .ifm
  | .advance => some .tck
  | .temperatureArrival _ _ | .validityTimerExpiry _ | .seasonStep | .startTimerExpiry | .minOnExpiry _ | .confirmExpiry _ => some .fhc
  | .prepareTimerExpiry | .callTimerExpiry | .releaseTimerExpiry | .retryTimerExpiry | .turnoverTimerExpiry => some .fsq
  | .linePeriodExpiry | .stationFrame _ _ _ | .silenceTimerExpiry | .stationBit _ | .burstEnd => some .sli
  | .collectTimerExpiry => some .trc
  | _ => none

/-! ### Invariants -/

/-- No zone heats in the start hold or in a quiescence without heat, a zone that heats is enabled, and the zones that heat draw no more
than the budget in force (R156 to R158). -/
def HeatSafe (s : State) : Prop :=
  (∀ z, (s.fhc.zones.get z).state = .on → s.fhc.startHold = false ∧ s.heatCut = false ∧ (s.cfg.zones.get z).enabled = true) ∧
  s.powerUsed ≤ s.budget

/-- The saturating counts keep their bounds: the recovery run (R141), the error log count (R142), the valve's fault count (R63), the overrun
count (R174), the lost count (R187) and the four counts of frame errors and dropped requests (R183). -/
def CountsBounded (s : State) : Prop :=
  (s.sli.recovery ≤ 15 ∧ s.sli.logCount ≤ 255) ∧ s.ivd.faults.count ≤ 255 ∧ s.trc.overrun ≤ 65535 ∧
  (s.svp.lost ≤ 255 ∧ s.svp.gapErrors ≤ 65535 ∧ s.svp.checkErrors ≤ 65535 ∧ s.svp.lengthErrors ≤ 65535 ∧ s.svp.dropped ≤ 65535)

/-- A line that is LOST believes nothing and stands at the top of its counter (R128, R140); the queues, the day ring and the journal keep their
bounds (R85, R125, R171, R184, R187); history_pre stays in its range wherever a copy of the settings is held; the counts keep theirs. -/
def Bounded (s : State) : Prop :=
  (s.sli.counter ≤ 255 ∧
    (s.sli.state = .lost → s.sli.counter = 255 ∧ s.sli.accepted = none ∧ s.sli.candidate = none)) ∧
  (s.svp.notices.length ≤ 16 ∧ s.svp.queue.length ≤ 2 ∧ s.trc.queue.length ≤ 128 ∧ s.fsq.journal.length ≤ 8 ∧
    s.fpl.ring.length ≤ 7) ∧
  (s.cfg.history.pre ≤ 127 ∧ (∀ i, s.sst.image = some i → i.copy.history.pre ≤ 127) ∧
    (∀ w, s.sst.writing = some w → w.history.pre ≤ 127)) ∧
  CountsBounded s

/-- CALL is wished only with the valve OPEN and the sequence in CALLING or FILLING (R119), and a sequence from PREPARE to FILLING has an open
fill record without an end cause (R116). -/
def CallSound (s : State) : Prop :=
  (s.sli.wishCall = true → s.ivd.state = .opened ∧ (s.fsq.seq = .calling ∨ s.fsq.seq = .filling)) ∧
  (s.fsq.seq = .prepare ∨ s.fsq.seq = .opening ∨ s.fsq.seq = .calling ∨ s.fsq.seq = .filling →
    ∃ f, s.fsq.fill = some f ∧ f.cause = none)

/-- Permission is that of R46, the force-close flag stands while the guard is latched (R39, R62), and HOLD is asked while it is in ISOLATE
(R42). -/
def GuardSound (s : State) : Prop :=
  s.ofg.granted = (withdrawal s.cfg.ofg.blindFill s.ofg).isNone ∧ s.ivd.forceClose = s.ofg.state.latched ∧
  s.sli.holdRequest = decide (s.ofg.state = .isolate)

/-- The ceiling is that of the settings, the table and the path in force (R28, R29), and no active row aims above it (R30, R103). -/
def CeilingSound (s : State) : Prop :=
  s.ofg.ceilingMm = ceilingOf s.cfg.ofg s.fhc.pathProven ∧
  s.ofg.ceilingVolume = volumeAt s.cfg.strap s.ofg.ceilingMm ∧
  ∀ k, (s.fsq.rows.row k).active = true → ∃ c, s.ofg.ceilingVolume = some c ∧ (s.fsq.rows.row k).target ≤ c

end Sys2Proof.Machine
end

