-- ==== Sys2Proof/Certificates/Slice0/Obligations.lean ====
section
/-! DEFINITION. The statements for the provers. Each says in its docstring the rule it follows; what rests on the model's own choice names
the log entry. The draw of an order of hand-overs (drawOrder) is the model's own step for a command that can hand one event to several
blocks, and the order drawn is free (log entry 4): each statement holds for every order. -/
section
open Sys2Proof Sys2Proof.Machine

/-! ### Steps and starts -/

/-- The oldest waiting command runs on the state with the rest of the queue, and with no waiting command the part idles. The queue of
waiting commands and idling on an empty one are the model's choices (log entries 1 and 2). -/
def Obligations.FrontCommandRuns : Prop :=
  (∀ (c : Instr) (rest : List Instr) (s : State), step (s.withPending (c :: rest)) = exec c (s.withPending rest)) ∧
  (∀ s : State, s.pending = [] → step s = .next s)

/-- Every step goes on, from every state: no command faults and none is refused by the machine. That no command faults, and that the part
idles on an empty queue, are the model's choices (log entries 6 and 2). -/
def Obligations.EveryStepGoesOn : Prop := ∀ s : State, Safe s

/-- What a command that arrives at one block leaves alone in the others: the settings, the store and the Service Port's slots for every field
event and timer expiry; and each block's own record for events that arrive elsewhere. -/
def Obligations.ArrivalFrames : Prop :=
  ∀ (c : Instr) (b : Block) (s t : State), arrivesAt c = some b → exec c s = .next t →
    (t.cfg = s.cfg ∧ t.sst.image = s.sst.image ∧ t.sst.writing = s.sst.writing ∧ t.sst.imageValid = s.sst.imageValid ∧
      t.sst.keepHeat = s.sst.keepHeat ∧ t.pending = s.pending ∧ t.fsq.hold = s.fsq.hold) ∧
    (t.svp.rx = s.svp.rx ∧ t.svp.queue = s.svp.queue ∧ t.svp.reply = s.svp.reply ∧ t.svp.busy = s.svp.busy ∧
      t.svp.formed = s.svp.formed ∧ t.svp.mask = s.svp.mask) ∧
    (b ≠ .lmu → t.lmu = s.lmu ∧ t.trc.queue = s.trc.queue ∧ t.trc.overrun = s.trc.overrun ∧
      t.trc.nextSequence = s.trc.nextSequence ∧ t.trc.sampleCount = s.trc.sampleCount ∧
      (b ≠ .ifm → t.ifm.intervalTally = s.ifm.intervalTally)) ∧
    (b ≠ .tck → t.tck = s.tck ∧ t.fpl.ring = s.fpl.ring ∧ t.fpl.openDay = s.fpl.openDay ∧ t.fpl.plan = s.fpl.plan) ∧
    (b ≠ .ifm → t.ifm.pulses = s.ifm.pulses ∧ t.ifm.stall = s.ifm.stall ∧ (b ≠ .tck → t.ifm.dayPulses = s.ifm.dayPulses)) ∧
    (b ≠ .sli → t.sli = { s.sli with wishCall := t.sli.wishCall, holdRequest := t.sli.holdRequest }) ∧
    (b ≠ .fhc → t.fhc.temps = s.fhc.temps ∧ t.fhc.season = s.fhc.season ∧ t.fhc.pathProven = s.fhc.pathProven ∧
      t.fhc.startHold = s.fhc.startHold ∧ t.ofg.ceilingMm = s.ofg.ceilingMm ∧ t.ofg.ceilingVolume = s.ofg.ceilingVolume) ∧
    (b ≠ .ofg → t.ofg.heldSpill = s.ofg.heldSpill) ∧
    (b ≠ .ivd → t.ivd.pattern = s.ivd.pattern ∧
      (b ≠ .lmu → t.ivd.faults = s.ivd.faults ∧ t.ivd.forceClose = s.ivd.forceClose ∧ t.ofg.state = s.ofg.state ∧
        t.sli.holdRequest = s.sli.holdRequest ∧ t.ofg.tripCause = s.ofg.tripCause ∧ t.ofg.tripRef = s.ofg.tripRef ∧
        t.ofg.escalation = s.ofg.escalation))

/-- R52: the guard record at power-on, with the ceiling of the settings loaded and the derate in force, and the first sample with sight. -/
def Obligations.PowerOnGuardRecord : Prop :=
  (∀ (limits : LimitPattern) (spill : SpillState) (s : State), ∃ t, exec (.powerOn limits spill) s = .next t ∧
    t.ofg.state = .blind ∧ t.ofg.blindFlag = true ∧
    t.ofg.warnCount = 0 ∧ t.ofg.exitCount = 0 ∧ t.ofg.tripLevelCount = 0 ∧ t.ofg.spillCount = 0 ∧ t.ofg.passCount = 0 ∧
    t.ofg.tripCause = none ∧ t.ofg.tripRef = none ∧ t.ofg.escalation = none ∧ t.ofg.tripUptime = none ∧ t.ofg.prevTrip = none ∧
    t.ofg.vLast = none ∧ t.ofg.budget = 0 ∧ t.ofg.test = none ∧ t.ofg.lastTest = none ∧
    t.ofg.granted = false ∧ t.ofg.reason = (if t.cfg.strap = [] then .noCeiling else .blind) ∧
    t.ofg.heldSpill = spill ∧
    t.ofg.ceilingMm = t.cfg.ofg.warnMm - t.cfg.ofg.ceilingMarginMm - t.cfg.ofg.frostDerateMm ∧
    t.ofg.ceilingVolume = volumeAt t.cfg.strap t.ofg.ceilingMm ∧ t.fhc.pathProven = false ∧
    t.ivd.forceClose = false ∧ t.sli.holdRequest = false ∧ t.sli.outgoing ≠ .hold) ∧
  (∀ s : State, s.ofg.state = .blind → s.lmu.sample.guardLevel.isSome = true → (guardSight s).ofg.state = .clear)

/-- R196, R193: the settings that power-on loads, from a valid image and without one, and the PART_STATE notice that goes on the line. The check
over a copy is an uninterpreted function (log entry 7). -/
def Obligations.PowerOnLoadsSettings : Prop :=
  ∀ (limits : LimitPattern) (spill : SpillState) (s : State), ∃ t, exec (.powerOn limits spill) s = .next t ∧
    (∀ i, s.sst.image = some i → i.check = Config.imageCheck i.copy → t.cfg = i.copy ∧ t.sst.imageValid = true) ∧
    ((∀ i, s.sst.image = some i → i.check ≠ Config.imageCheck i.copy) → t.cfg = {} ∧ t.sst.imageValid = false) ∧
    t.sst.image = s.sst.image ∧ t.sst.writing = none ∧ t.sst.keepHeat = true ∧
    t.sst.part = (if t.cfg.strap = [] then .unconfigured else .running) ∧
    (limits ≠ .both → t.svp.tx = some ⟨.notice, 0x60, 0, [18, 0, 0, 0, 0, 0] ++ fieldBytes
      [numField t.sst.part.code, 0x80000000#32, if t.sst.imageValid then 0 else 1]⟩)

/-- R25, R65, R70, R81, R87, R127, R147, R166, R181, R191: the other blocks after power-on. -/
def Obligations.PowerOnBlockValues : Prop :=
  ∀ (limits : LimitPattern) (spill : SpillState) (s : State), ∃ t, exec (.powerOn limits spill) s = .next t ∧
    (t.lmu.a = ⟨none, 0, 0, none, []⟩ ∧ t.lmu.b = ⟨none, 0, 0, none, []⟩ ∧ t.lmu.pulseRing = [] ∧ t.lmu.rateRing = [] ∧
      t.lmu.acc = 0 ∧ t.lmu.seeded = false ∧ t.lmu.disagreeCount = 0 ∧ t.lmu.sample.healthA = .absent ∧
      t.lmu.sample.healthB = .absent ∧ t.lmu.sample.active = none ∧ t.lmu.sample.smoothed = none ∧
      t.lmu.sample.guardLevel = none ∧ t.lmu.sample.disagree = false ∧ t.lmu.sampleTimer = some ⟨0, t.cfg.lmu.samplePeriodS⟩) ∧
    (t.ivd.pattern = limits ∧ t.ivd.reprove = none ∧
      (limits = .closedOnly → t.ivd.state = .closed ∧ t.ivd.drive = .idle ∧ t.ivd.faults.isEmpty = true) ∧
      (limits = .openOnly ∨ limits = .neither →
        t.ivd.state = .closing ∧ t.ivd.drive = .closing ∧ t.ivd.watchdog = some ⟨0, t.cfg.valve.valveTravelS⟩) ∧
      (limits = .both → t.ivd.state = .fault .bothLimits ∧ t.ivd.drive = .closing ∧ t.ivd.faults.bothLimits = some 0)) ∧
    (t.ifm.pulses = 0 ∧ t.ifm.fillTally = none ∧ t.ifm.dayPulses = 0 ∧ t.ifm.intervalTally = 0 ∧ t.ifm.stall = false ∧
      t.ifm.stallTimer = none) ∧
    (t.tck.time = none ∧ t.tck.uptime = 0 ∧ t.tck.band = .standard ∧ t.tck.secondRunning = true) ∧
    (t.fpl.ring = [] ∧ t.fpl.openDay = ⟨none, .start, none, true, false, false⟩ ∧ t.fpl.learned = none ∧ t.fpl.plan = none ∧
      t.fpl.allowance = none ∧ t.fpl.stallMark = false) ∧
    (t.fsq.seq = .idle ∧ t.fsq.fill = none ∧ t.fsq.journal = [] ∧ t.fsq.hold = false ∧ t.fsq.retryTimer = none ∧
      t.fsq.turnoverTimer = some ⟨0, t.cfg.frostFill.turnoverH * 3600⟩ ∧
      ∀ k, (t.fsq.rows.row k).active = false ∧ (t.fsq.rows.row k).attempts = 0) ∧
    (t.sli.state = .ok ∧ t.sli.counter = 0 ∧ t.sli.accepted = none ∧ t.sli.candidate = none ∧ t.sli.persist = 0 ∧
      t.sli.wishCall = false ∧ t.sli.lastSent = none ∧ t.sli.lastError = .noError ∧ t.sli.logCount = 0 ∧ t.sli.rx = .quiet ∧
      t.sli.periodTimer = some ⟨0, t.cfg.line.linePeriodS⟩ ∧ t.sli.silenceTimer = some ⟨0, 3 * t.cfg.line.linePeriodS⟩) ∧
    ((∀ p, (t.fhc.temps.get p).reading = none) ∧ t.fhc.season = .unknown ∧ t.fhc.cold = 0 ∧ t.fhc.warm = 0 ∧ t.fhc.valid = 0 ∧
      t.fhc.seasonTimer = some ⟨0, 60⟩ ∧ t.fhc.startHold = true ∧
      ∀ z, (t.fhc.zones.get z).state = (if (t.cfg.zones.get z).enabled then .off else .disabled)) ∧
    (t.trc.queue = [] ∧ t.trc.trigger = .armed ∧ t.trc.nextSequence = 0 ∧ t.trc.overrun = 0 ∧ t.trc.sampleCount = 0 ∧
      t.trc.collectTimer = none) ∧
    (t.svp.rx = .hunt ∧ t.svp.gapRunning = false ∧ t.svp.queue = [] ∧ t.svp.reply = none ∧ t.svp.busy = none ∧ t.svp.lost = 0 ∧
      t.svp.mask = BitVec.allOnes 22 ∧ t.svp.gapErrors = 0 ∧ t.svp.checkErrors = 0 ∧ t.svp.lengthErrors = 0 ∧ t.svp.dropped = 0) ∧
    t.pending = s.pending

/-! ### Level measurement -/

/-- R1, R2, R27: the arrivals at the sensor ports and the spill switch replace what is held and change nothing else, and what is held is what
the next sample takes (R3, R4, R37). -/
def Obligations.FieldArrivals : Prop :=
  (∀ (s : State) (count : Nat), count ≤ 4095 →
    exec (.headSensorArrival count) s = .next (s.withLmu { s.lmu with a := { s.lmu.a with held := some ⟨count, s.now⟩ } })) ∧
  (∀ (s : State) (distance : Nat),
    exec (.rangeSensorArrival (some distance)) s =
      .next (s.withLmu { s.lmu with b := { s.lmu.b with held := some ⟨distance, s.now⟩ } })) ∧
  (∀ s : State, exec (.rangeSensorArrival none) s = .next s) ∧
  (∀ (s : State) (p : SpillState), exec (.spillSwitchChange p) s = .next (s.withOfg { s.ofg with heldSpill := p })) ∧
  (∀ (s : State) (count distance : Nat), count ≤ 4095 →
    ∃ t u v w x y,
      exec (.headSensorArrival count) s = .next t ∧ exec .sampleTimerExpiry t = .next u ∧
      u.lmu.sample.levelA = headLevel s.cfg.lmu count ∧
      exec (.rangeSensorArrival (some distance)) s = .next v ∧ exec .sampleTimerExpiry v = .next w ∧
      w.lmu.sample.levelB = rangeLevel s.cfg.lmu distance ∧
      exec (.spillSwitchChange .released) s = .next x ∧ exec .sampleTimerExpiry x = .next y ∧ y.ofg.spillCount = 0)

/-- R3, R4, R7, R8: the levels that a sample takes from the held readings of both sensors, and the health of a reading that is stale, out of range
or absent. The age of a reading modulo 2^32 (log entry 9) and the health kept by a sensor without a reading, which R8 has only as ABSENT (log
entry 26), are the model's choices. -/
def Obligations.SampleLevels : Prop :=
  ∀ s : State, ∃ t, exec .sampleTimerExpiry s = .next t ∧ t.lmu.sample.uptime = s.now ∧
    (∀ r, s.lmu.a.held = some r → elapsed s.now r.stamp ≤ s.cfg.lmu.staleS →
      (((r.raw : Int) < (s.cfg.lmu.aZero : Int) - 40 ∨ (s.cfg.lmu.aFull : Int) + 40 < r.raw) →
        t.lmu.sample.levelA = none ∧ t.lmu.sample.healthA = .failed .range) ∧
      (¬((r.raw : Int) < (s.cfg.lmu.aZero : Int) - 40 ∨ (s.cfg.lmu.aFull : Int) + 40 < r.raw) →
        t.lmu.sample.levelA = some (clamp 0 20000 ((s.cfg.lmu.aOffsetMm : Int) + Int.fdiv
          (((r.raw : Int) - (s.cfg.lmu.aZero : Int)) * (s.cfg.lmu.aSpanMm : Int))
          ((s.cfg.lmu.aFull : Int) - (s.cfg.lmu.aZero : Int)))).toNat)) ∧
    (∀ r, s.lmu.b.held = some r → elapsed s.now r.stamp ≤ s.cfg.lmu.staleS →
      ((r.raw < 300 ∨ 20000 < r.raw) → t.lmu.sample.levelB = none ∧ t.lmu.sample.healthB = .failed .range) ∧
      (300 ≤ r.raw → r.raw ≤ 20000 →
        t.lmu.sample.levelB = some (clamp 0 20000 ((s.cfg.lmu.bMountMm : Int) - r.raw)).toNat)) ∧
    (∀ r, s.lmu.a.held = some r → s.cfg.lmu.staleS < elapsed s.now r.stamp →
      t.lmu.sample.levelA = none ∧ t.lmu.sample.healthA = .failed .stale) ∧
    (∀ r, s.lmu.b.held = some r → s.cfg.lmu.staleS < elapsed s.now r.stamp →
      t.lmu.sample.levelB = none ∧ t.lmu.sample.healthB = .failed .stale) ∧
    (s.lmu.a.held = none → t.lmu.sample.levelA = none ∧ t.lmu.sample.healthA = s.lmu.sample.healthA) ∧
    (s.lmu.b.held = none → t.lmu.sample.levelB = none ∧ t.lmu.sample.healthB = s.lmu.sample.healthB)

/-- R5, R6, R10, R11, R13 to R19, R23: what a sample forms from the levels it has taken: the flat-line window and the check of a GOOD sensor,
the active source, the smoothing accumulator, the rate ring and the rate, the guard level, DISAGREE and the volumes; the reload of its timer;
what a sample leaves alone; and the spread and the inflow of a window. -/
def Obligations.SampleVolumes : Prop :=
  (∀ s : State, ∃ t, exec .sampleTimerExpiry s = .next t ∧
    let c := s.cfg.lmu
    let old := s.lmu.sample
    let x := t.lmu.sample
    t.lmu.sampleTimer = some ⟨s.now, c.samplePeriodS⟩ ∧
    (t.lmu.a.ring = push c.flatWindow s.lmu.a.ring x.levelA ∧ t.lmu.b.ring = push c.flatWindow s.lmu.b.ring x.levelB ∧
      t.lmu.pulseRing = push c.flatWindow s.lmu.pulseRing s.ifm.pulses) ∧
    (let metered := c.flatFlowL ≤ windowPulses t.lmu.pulseRing * s.cfg.valve.litresPerPulse ∧ s.ifm.stall = false;
      let flat := fun own other : List (Option Nat) =>
        own.length = c.flatWindow ∧ (∀ y, y ∈ own → y.isSome = true) ∧ windowSpread own ≤ c.flatBandMm ∧
          (metered ∨ 3 * c.flatBandMm < windowSpread other);
      (∀ v, old.healthA = .good → x.levelA = some v →
        (flat t.lmu.a.ring t.lmu.b.ring → x.healthA = .suspectFlat ∧ t.lmu.a.flatRef = some v) ∧
        (¬flat t.lmu.a.ring t.lmu.b.ring → x.healthA = .good)) ∧
      (∀ v, old.healthB = .good → x.levelB = some v →
        (flat t.lmu.b.ring t.lmu.a.ring → x.healthB = .suspectFlat ∧ t.lmu.b.flatRef = some v) ∧
        (¬flat t.lmu.b.ring t.lmu.a.ring → x.healthB = .good))) ∧
    (t.lmu.a.goodRun = (if x.healthA = .good then min 600 (s.lmu.a.goodRun + 1) else 0) ∧
      t.lmu.b.goodRun = (if x.healthB = .good then min 600 (s.lmu.b.goodRun + 1) else 0)) ∧
    (let health : Sensor → Health := fun y => match y with
        | .a => x.healthA
        | .b => x.healthB;
      let backup : Sensor := match c.primary with
        | .a => .b
        | .b => .a;
      let primaryRun : Nat := match c.primary with
        | .a => t.lmu.a.goodRun
        | .b => t.lmu.b.goodRun;
      (old.active = some backup → health backup = .good →
        x.active = if c.revertive = true ∧ c.revertSamples ≤ primaryRun then some c.primary else some backup) ∧
      (¬(old.active = some backup ∧ health backup = .good) →
        x.active =
          if health c.primary = .good then some c.primary
          else if health backup = .good then some backup
          else if health c.primary = .suspectFlat then some c.primary
          else if health backup = .suspectFlat then some backup
          else none)) ∧
    x.swap = decide (x.active ≠ old.active) ∧
    (x.active = none →
      x.activeLevel = none ∧ x.smoothed = none ∧ t.lmu.acc = s.lmu.acc ∧ t.lmu.seeded = s.lmu.seeded) ∧
    (x.active = some .a → x.activeLevel = x.levelA) ∧ (x.active = some .b → x.activeLevel = x.levelB) ∧
    (∀ v, x.activeLevel = some v →
      t.lmu.seeded = true ∧ x.smoothed = some (Int.fdiv t.lmu.acc 16).toNat ∧
      t.lmu.acc =
        (if s.lmu.seeded = false ∨ x.swap = true then 16 * (v : Int)
        else s.lmu.acc + Int.fdiv (16 * (v : Int) - s.lmu.acc) (2 ^ c.smoothK))) ∧
    (let kept := if x.swap then [] else s.lmu.rateRing;
      (x.smoothed = none → t.lmu.rateRing = kept) ∧
      (∀ v, x.smoothed = some v → t.lmu.rateRing = push (c.rateSpan + 1) kept v)) ∧
    (t.lmu.rateRing.length ≠ c.rateSpan + 1 → x.rate = none) ∧
    (∀ (oldest newest : Nat) (between : List Nat), t.lmu.rateRing = oldest :: (between ++ [newest]) →
      t.lmu.rateRing.length = c.rateSpan + 1 →
      x.rate = some (clamp (-9999) 9999
        (Int.tdiv (((newest : Int) - (oldest : Int)) * 60) ((c.rateSpan : Int) * (c.samplePeriodS : Int))))) ∧
    (x.healthA ≠ .good ∨ x.healthB ≠ .good → t.lmu.disagreeCount = 0 ∧ x.disagree = false) ∧
    (∀ v w, x.healthA = .good → x.healthB = .good → x.levelA = some v → x.levelB = some w →
      (((v : Int) - (w : Int)).natAbs ≤ c.agreeMm → t.lmu.disagreeCount = 0 ∧ x.disagree = false) ∧
      (c.agreeMm < ((v : Int) - (w : Int)).natAbs → t.lmu.disagreeCount = s.lmu.disagreeCount + 1 ∧
        x.disagree = (old.disagree || decide (c.agreeSamples ≤ s.lmu.disagreeCount + 1)))) ∧
    x.guardLevel =
      (match (if x.healthA.usable then x.levelA else none), (if x.healthB.usable then x.levelB else none) with
        | some a, some b => some (max a b)
        | some a, none => some a
        | none, b => b) ∧
    x.smoothedVolume = x.smoothed.bind (volumeAt s.cfg.strap) ∧ x.guardVolume = x.guardLevel.bind (volumeAt s.cfg.strap) ∧
    x.planningVolume = (if x.disagree then x.guardVolume else x.smoothedVolume) ∧
    t.tck = s.tck ∧ t.cfg = s.cfg ∧ t.sst.image = s.sst.image ∧ t.ifm.pulses = s.ifm.pulses ∧
    t.ifm.dayPulses = s.ifm.dayPulses ∧ t.pending = s.pending) ∧
  (∀ (ring : List (Option Nat)) (low high : Nat), some low ∈ ring → some high ∈ ring →
    (∀ y, some y ∈ ring → low ≤ y ∧ y ≤ high) → windowSpread ring = high - low) ∧
  (∀ (oldest newest : Word) (between : List Word), windowPulses (oldest :: (between ++ [newest])) = (newest - oldest).toNat)

/-- R8, R9, R12: the table of a sensor's health after a sample. The manual has a reading of class NONE only for an ABSENT sensor; that it keeps
any other health too is the model's choice (log entry 26). -/
def Obligations.HealthTable : Prop :=
  ∀ (c : LmuSettings) (flat : Bool) (h : Health) (st : SensorState) (level : Nat),
    (nextHealth c flat h st .stale).1 = .failed .stale ∧ (nextHealth c flat h st .range).1 = .failed .range ∧
    (nextHealth c flat h st .absent).1 = h ∧
    (h = .absent ∨ (∃ k, h = .failed k) →
      (nextHealth c flat h st (.valid level)).1 = if c.warmSamples = 0 then .good else .warming) ∧
    (h = .warming → (nextHealth c flat h st (.valid level)).1 = if c.warmSamples ≤ st.warmCount + 1 then .good else .warming) ∧
    (h = .good → (nextHealth c flat h st (.valid level)).1 = if flat then .suspectFlat else .good) ∧
    (∀ ref, h = .suspectFlat → st.flatRef = some ref →
      (nextHealth c flat h st (.valid level)).1 =
        if c.flatBandMm < ((level : Int) - ref).natAbs then .good else .suspectFlat)

/-- R21, R22: the conversions between level and volume under a table in force, and without one. -/
def Obligations.StrapConversions : Prop :=
  (∀ (table : List StrapPoint) (x : Nat), pointsOrdered table = true → 2 ≤ table.length →
    (∀ first, table.head? = some first →
      (x ≤ first.level → volumeAt table x = some first.volume) ∧ (x ≤ first.volume → levelAt table x = some first.level)) ∧
    (∀ last, table.getLast? = some last →
      (last.level ≤ x → volumeAt table x = some last.volume) ∧ (last.volume < x → levelAt table x = some last.level)) ∧
    (∀ i p q, table[i]? = some p → table[i + 1]? = some q →
      (p.level ≤ x → x < q.level →
        volumeAt table x = some (p.volume + (x - p.level) * (q.volume - p.volume) / (q.level - p.level))) ∧
      ((∀ j r, j ≤ i → table[j]? = some r → r.volume < x) → x ≤ q.volume →
        levelAt table x = some (p.level + (x - p.volume) * (q.level - p.level) / (q.volume - p.volume))))) ∧
  (∀ x, volumeAt [] x = none ∧ levelAt [] x = none) ∧
  (∀ table, (none : Option Nat).bind (volumeAt table) = none ∧ (none : Option Nat).bind (levelAt table) = none)

/-! ### Overflow Guard -/

/-- R38, R46, R36: the trip judgement by the established conditions, fill permission by the guard record, and the exit from WARN, in which the
warn and exit counts go to 0. The judgement under BOTH without sight and both conditions established, a cell that R38 says cannot occur, is the
model's choice (log entry 26). -/
def Obligations.GuardTables : Prop :=
  (∀ sight, tripJudgement .any sight true false = some .level ∧ tripJudgement .any sight false true = some .spill ∧
    tripJudgement .any sight true true = some .both ∧ tripJudgement .both sight true true = some .both) ∧
  (∀ combine sight, tripJudgement combine sight false false = none) ∧
  tripJudgement .both true true false = none ∧ tripJudgement .both true false true = none ∧
  tripJudgement .both false false true = some .spill ∧
  (∀ (blindFill : Bool) (g : Ofg),
    (g.state = .tripped ∨ g.state = .isolate → withdrawal blindFill g = some .trip) ∧
    (g.state = .warn → withdrawal blindFill g = some .warn) ∧
    (g.state = .clear ∨ g.state = .blind → g.ceilingVolume = none → withdrawal blindFill g = some .noCeiling) ∧
    (g.state = .clear → g.ceilingVolume.isSome = true → withdrawal blindFill g = none) ∧
    (g.state = .blind → g.ceilingVolume.isSome = true →
      withdrawal blindFill g = if blindFill = true ∧ 0 < g.budget then none else some .blind)) ∧
  (∀ s : State, s.ofg.state = .warn →
    let below := ∃ g, s.lmu.sample.guardLevel = some g ∧ g + s.cfg.ofg.warnHystMm < s.cfg.ofg.warnMm
    (below → s.cfg.ofg.warnExitN ≤ s.ofg.exitCount →
      (warnStages s).ofg = { s.ofg with state := .clear, warnCount := 0, exitCount := 0 }) ∧
    (¬below ∨ s.ofg.exitCount < s.cfg.ofg.warnExitN → warnStages s = s))

/-- R37 to R39, R62, R118: the sample at which the spill count reaches its threshold trips the guard under combine ANY: the latch, the
withdrawn permission, the force-close and the guard's close, and the end of CALL. -/
def Obligations.SpillTripsGuard : Prop :=
  ∀ s : State, s.cfg.ofg.combine = .any → s.ofg.state.latched = false → s.ofg.heldSpill = .asserted →
    s.cfg.ofg.spillN ≤ s.ofg.spillCount + 1 →
    ∃ t, exec .sampleTimerExpiry s = .next t ∧
      t.ofg.state = .tripped ∧ (t.ofg.tripCause = some .spill ∨ t.ofg.tripCause = some .both) ∧
      t.ofg.tripUptime = some s.now ∧ t.ofg.tripRef = t.lmu.sample.guardLevel ∧ t.ofg.escalation = none ∧
      t.ofg.granted = false ∧ t.ofg.reason = .trip ∧ t.ofg.test = none ∧
      t.ofg.warnCount = 0 ∧ t.ofg.exitCount = 0 ∧ t.ofg.tripLevelCount = 0 ∧ t.ofg.spillCount = 0 ∧
      t.ivd.forceClose = true ∧
      (s.ivd.state = .opened → t.ivd.state = .closing ∧ t.ivd.drive = .closing) ∧
      (s.fsq.seq = .calling ∨ s.fsq.seq = .filling → t.sli.wishCall = false)

/-- R43, R48: GUARD_CLEAR and GUARD_TEST, accepted and refused, in every part state and with a commit in flight or not. That an accepted
GUARD_TEST drops the record of the last test is the model's reading (log entry 19), and that the offset is named where offset and count are both out
of range is its choice (log entry 44). -/
def Obligations.GuardRequests : Prop :=
  (∀ (s : State) (tag : Byte) (g : Nat), s.free → s.ofg.state = .tripped ∨ s.ofg.state = .isolate →
    s.lmu.sample.guardLevel = some g → g < s.cfg.ofg.rearmMm →
    ∃ t, exec (.guardClear tag) s = .next t ∧ t.replied 0x89 tag [] ∧
      t.ofg.state = .clear ∧ t.ofg.warnCount = 0 ∧ t.ofg.exitCount = 0 ∧ t.ofg.tripLevelCount = 0 ∧ t.ofg.spillCount = 0 ∧
      t.ofg.passCount = 0 ∧ t.ofg.tripCause = none ∧ t.ofg.tripRef = none ∧ t.ofg.escalation = none ∧ t.ofg.tripUptime = none ∧
      t.ofg.prevTrip = some ⟨s.ofg.tripCause, s.ofg.tripRef, s.ofg.escalation, s.ofg.tripUptime⟩ ∧
      t.ofg.granted = s.ofg.ceilingVolume.isSome ∧ t.ivd.forceClose = false ∧ t.ivd.faults = s.ivd.faults ∧
      t.sli.holdRequest = false ∧ t.sli.outgoing = (if t.sli.wishCall then .call else .idle) ∧ t.cfg = s.cfg ∧ t.lmu = s.lmu) ∧
  (∀ (s : State) (tag : Byte), s.free → s.ofg.state.latched = false →
    exec (.guardClear tag) s = .next (s.drawOrder.refused tag 0x09 6 [])) ∧
  (∀ (s : State) (tag : Byte), s.free → s.ofg.state.latched = true → s.lmu.sample.guardLevel = none →
    exec (.guardClear tag) s = .next (s.drawOrder.refused tag 0x09 8 [])) ∧
  (∀ (s : State) (tag : Byte) (g : Nat), s.free → s.ofg.state.latched = true → s.lmu.sample.guardLevel = some g →
    s.cfg.ofg.rearmMm ≤ g → exec (.guardClear tag) s = .next (s.drawOrder.refused tag 0x09 7 (halfBytes (BitVec.ofNat 16 g)))) ∧
  (∀ (s : State) (tag : Byte) (offset count : Nat), s.free → 100 ≤ offset → offset ≤ 5000 → 1 ≤ count → count ≤ 60 →
    exec (.guardTest tag (numField offset) (numField count)) s =
      .next (if s.ofg.state = .clear ∧ s.ofg.test = none ∧ s.ivd.state = .closed ∧ s.fsq.seq = .idle ∧ s.sst.part = .running then
        (s.withOfg { s.ofg with test := some ⟨offset, count, 0, 0, 0, .clear, 0, .notIssued⟩, lastTest := none }).answered 0x8A tag []
      else s.refused tag 0x0A 6 [])) ∧
  (∀ (s : State) (tag : Byte) (offset count : Word), s.free →
    (inRange 100 5000 offset.toInt = false → exec (.guardTest tag offset count) s = .next (s.refused tag 0x0A 3 [0])) ∧
    (inRange 100 5000 offset.toInt = true → inRange 1 60 count.toInt = false →
      exec (.guardTest tag offset count) s = .next (s.refused tag 0x0A 3 [1])))

/-! ### Inlet valve and inflow meter -/

/-- R56: an open command by the valve's state and the force-close flag: accepted, or the reason it is refused with, and what it hands over. -/
def Obligations.ValveOpenCommand : Prop :=
  ∀ s : State,
    (s.ivd.forceClose = true → valveOpen s = (some .forceClose, s, [])) ∧
    (∀ c, s.ivd.forceClose = false → s.ivd.state = .fault c → valveOpen s = (some .fault, s, [])) ∧
    (s.ivd.forceClose = false → s.ivd.state = .closed ∨ s.ivd.state = .closing →
      valveOpen s =
        (none, s.withIvd { s.ivd with
          state := .opening, drive := .opening, watchdog := some ⟨s.now, s.cfg.valve.valveTravelS⟩, reprove := none },
          [.moved .opening])) ∧
    (s.ivd.forceClose = false → s.ivd.state = .opening ∨ s.ivd.state = .opened → valveOpen s = (none, s, []))

/-- R57, R59: a close command by the valve's state, with what it hands over. The code of a cause and the fields of the VALVE notice RECOVERED
are the model's (log entries 10 and 12). -/
def Obligations.ValveCloseCommand : Prop :=
  ∀ s : State,
    (s.ivd.state = .closed →
      valveClose s = (s.withIvd { s.ivd with drive := .closing, reprove := some ⟨s.now, s.cfg.valve.reproveS⟩ }, [])) ∧
    (s.ivd.state = .opening ∨ s.ivd.state = .opened ∨ (s.ivd.state = .unknown ∧ s.ivd.pattern ≠ .closedOnly) →
      valveClose s =
        (s.withIvd { s.ivd with
          state := .closing, drive := .closing, watchdog := some ⟨s.now, s.cfg.valve.valveTravelS⟩ }, [.moved .closing])) ∧
    (s.ivd.state = .closing → valveClose s = (s, [])) ∧
    (s.ivd.state = .unknown → s.ivd.pattern = .closedOnly →
      valveClose s = (s.withIvd { s.ivd with state := .closed, drive := .idle, watchdog := none }, [.moved .closed])) ∧
    (∀ c, s.ivd.state = .fault c →
      (s.ivd.drive = .closing → valveClose s = (s, [])) ∧
      (s.ivd.drive ≠ .closing → s.ivd.pattern ≠ .closedOnly →
        valveClose s =
          (s.withIvd { s.ivd with drive := .closing, watchdog := some ⟨s.now, s.cfg.valve.valveTravelS⟩ }, [])) ∧
      (s.ivd.drive ≠ .closing → s.ivd.pattern = .closedOnly →
        valveClose s =
          ((s.withIvd { s.ivd with state := .closed, drive := .idle, watchdog := none }).raise .valve [1, numField c.code],
            [.moved .closed])))

/-- R59, R113, R114: the arrival at OPEN, and the sequence of the fill that waits for it. R61, R117: the loss of the open limit; that the open
record takes its seconds in FILLING at the end event, and not at the close, is the model's choice (log entry 20). -/
def Obligations.OpenLimit : Prop :=
  (∀ s : State, s.ivd.state = .opening → s.ivd.pattern ≠ .openOnly →
    ∃ t, exec (.limitChange .openOnly) s = .next t ∧
      t.ivd = { s.ivd with pattern := .openOnly, state := .opened, drive := .idle, watchdog := none } ∧
      (∀ f, s.fsq.seq = .opening → s.fsq.fill = some f → f.mode = .called → s.sli.accepted ≠ some .running →
        t.fsq.seq = .calling ∧ t.sli.wishCall = true ∧ t.fsq.callTimer = some ⟨s.now, s.cfg.supply.callWaitS⟩) ∧
      (∀ f, s.fsq.seq = .opening → s.fsq.fill = some f → f.mode = .called ∧ s.sli.accepted = some .running ∨ f.mode = .pressured →
        t.fsq.seq = .filling ∧ t.fsq.fill = some { f with fillingAt := some s.now } ∧
        (f.mode = .called → t.sli.wishCall = true))) ∧
  (∀ s : State, s.ivd.state = .opened → s.ivd.pattern = .openOnly →
    ∃ t, exec (.limitChange .neither) s = .next t ∧
      t.ivd = { s.ivd with
        pattern := .neither, state := .closing, drive := .closing, watchdog := some ⟨s.now, s.cfg.valve.valveTravelS⟩ } ∧
      (∀ f, s.fsq.seq = .filling → s.fsq.fill = some f → f.cause = none →
        t.sli.wishCall = false ∧
        ∃ g, t.fsq.fill = some g ∧ g.cause = some .valveFault ∧ g.endUptime = some s.now ∧
          g.fillingSeconds = elapsed s.now (f.fillingAt.getD s.now)))

/-- R59, R121, R122, R199: the arrival at CLOSED that closes the record of an ended fill; and R111: the start check that follows it, by which a
waiting fill starts at once where every condition holds. The end uptime as recorded at the close is the model's reading (log entry 20). -/
def Obligations.ClosedArrival : Prop :=
  ∀ (s : State) (f : FillRecord), s.ivd.state = .closing → s.ivd.pattern ≠ .closedOnly → s.fsq.seq = .closing →
    s.fsq.fill = some f →
    ∃ t, exec (.limitChange .closedOnly) s = .next t ∧
      t.closedFrom s f { s.ivd with pattern := .closedOnly, state := .closed, drive := .idle, watchdog := none }

/-- R55, R40, R42, R63: a change to BOTH in every state, and the escalation of a tripped guard. -/
def Obligations.BothLimits : Prop :=
  ∀ s : State, s.ivd.pattern ≠ .both →
    ∃ t, exec (.limitChange .both) s = .next t ∧
      t.ivd.pattern = .both ∧ t.ivd.state = .fault .bothLimits ∧ t.ivd.drive = .closing ∧ t.ivd.reprove = none ∧
      t.ivd.watchdog = some ⟨s.now, s.cfg.valve.valveTravelS⟩ ∧ t.ivd.forceClose = s.ivd.forceClose ∧
      t.ivd.faults.bothLimits = some s.now ∧ t.ivd.faults.count = min 255 (s.ivd.faults.count + 1) ∧
      t.ivd.faults.openTimeout = s.ivd.faults.openTimeout ∧ t.ivd.faults.closeTimeout = s.ivd.faults.closeTimeout ∧
      t.ivd.faults.passing = s.ivd.faults.passing ∧
      (s.ofg.state = .tripped →
        t.ofg.state = .isolate ∧ t.ofg.escalation = some .closeFault ∧ t.ofg.tripCause = s.ofg.tripCause ∧
        t.sli.holdRequest = true ∧ t.sli.outgoing = .hold) ∧
      (s.ofg.state ≠ .tripped → t.ofg.state = s.ofg.state ∧ t.sli.holdRequest = s.sli.holdRequest)

/-- R60, R63, R40: the watchdog expires. With the watchdog stopped only the order of hand-overs is drawn (log entries 3 and 4). -/
def Obligations.WatchdogFaults : Prop :=
  (∀ s : State, s.ivd.state = .opening → s.ivd.watchdog.isSome = true →
    ∃ t, exec .watchdogExpiry s = .next t ∧
      t.ivd.state = .fault .openTimeout ∧ t.ivd.drive = .closing ∧
      t.ivd.watchdog = some ⟨s.now, s.cfg.valve.valveTravelS⟩ ∧ t.ivd.faults.openTimeout = some s.now ∧
      t.ivd.faults.closeTimeout = s.ivd.faults.closeTimeout ∧ t.ofg.state = s.ofg.state) ∧
  (∀ s : State, s.ivd.state = .closing ∨ (∃ c, s.ivd.state = .fault c) → s.ivd.watchdog.isSome = true →
    s.fsq.seq = .idle ∨ s.fsq.seq = .releasing ∨ s.fsq.seq = .closing →
    ∃ t, exec .watchdogExpiry s = .next t ∧
      t.ivd.state = .fault .closeTimeout ∧ t.ivd.drive = .idle ∧ t.ivd.watchdog = none ∧
      t.ivd.faults.closeTimeout = some s.now ∧ t.ivd.faults.openTimeout = s.ivd.faults.openTimeout ∧
      t.ivd.faults.count = min 255 (s.ivd.faults.count + 1) ∧
      (s.ofg.state = .tripped → t.ofg.state = .isolate ∧ t.ofg.escalation = some .closeFault ∧ t.sli.outgoing = .hold)) ∧
  (∀ s : State, s.ivd.watchdog = none → exec .watchdogExpiry s = .next s.drawOrder)

/-- R58, R49, R121, R111: the re-prove timer expires: with the pattern CLOSED_ONLY the completion proves the close of a guard test that waits for
it and closes the record of a fill in CLOSING, after which a waiting fill may start; else only the driver's record changes. R58 excludes an
expiry with another pattern, and what the model does there is its choice (log entry 26), as is the end uptime taken at the close (log entry 20).
With the timer stopped only the order of hand-overs is drawn (log entries 3 and 4). R68, R99, R115: the stall timer expires. -/
def Obligations.ReproveAndStall : Prop :=
  (∀ (s : State) (q : GuardTest), s.ivd.reprove.isSome = true → s.ivd.pattern = .closedOnly → s.ofg.test = some q →
    q.closeResult = .pending →
    ∃ t, exec .reproveExpiry s = .next t ∧ t.ivd = { s.ivd with drive := .idle, reprove := none } ∧
      t.ofg = { s.ofg with test := some { q with closeResult := .proven } }) ∧
  (∀ (s : State) (f : FillRecord), s.ivd.reprove.isSome = true → s.ivd.pattern = .closedOnly → s.ivd.state = .closed →
    s.fsq.seq = .closing → s.fsq.fill = some f →
    ∃ t, exec .reproveExpiry s = .next t ∧ t.closedFrom s f { s.ivd with drive := .idle, reprove := none }) ∧
  (∀ s : State, s.ivd.reprove.isSome = true → s.ivd.pattern = .closedOnly → s.fsq.seq ≠ .closing →
    s.fsq.seq ≠ .idle ∨ s.ofg.granted = false ∨ s.working = none →
    (∀ q, s.ofg.test = some q → q.closeResult ≠ .pending) →
    exec .reproveExpiry s = .next (s.drawOrder.withIvd { s.ivd with drive := .idle, reprove := none })) ∧
  (∀ s : State, s.ivd.reprove.isSome = true → s.ivd.pattern ≠ .closedOnly →
    exec .reproveExpiry s = .next (s.drawOrder.withIvd { s.ivd with drive := .idle, reprove := none })) ∧
  (∀ s : State, s.ivd.reprove = none → exec .reproveExpiry s = .next s.drawOrder) ∧
  (∀ s : State, s.ifm.stallTimer.isSome = true → s.ifm.stall = false →
    ∃ t, exec .stallTimerExpiry s = .next t ∧ t.ifm = { s.ifm with stall := true, stallTimer := none } ∧
      t.fsq = { s.fsq with fill := s.fsq.fill.map fun f => { f with meterStall := true } } ∧
      t.fpl = { s.fpl with stallMark := s.fpl.stallMark || s.fsq.fill.isSome } ∧
      t.lmu = s.lmu ∧ t.ofg = s.ofg ∧ t.ivd = s.ivd ∧ t.tck = s.tck ∧ t.sli = s.sli ∧ t.fhc = s.fhc ∧ t.trc = s.trc ∧ t.sst = s.sst)

/-- R66, R67, R33, R97, R68: a pulse adds to every open tally and counts down the blind budget and the allowance, each by the state as the pulse
finds it, so a fill that ends at the pulse hides it from none of them. The fill tally is stated for a
pulse that spends neither the budget nor the allowance, since one that does can end the fill, and its record with it, in the same event. -/
def Obligations.MeterPulse : Prop :=
  ∀ s : State, ∃ t, exec .meterPulse s = .next t ∧
    t.ifm.pulses = s.ifm.pulses + 1 ∧ t.ifm.dayPulses = s.ifm.dayPulses + 1 ∧
    t.ifm.intervalTally = min 4294967295 (s.ifm.intervalTally + s.cfg.valve.litresPerPulse) ∧ t.ifm.stall = false ∧
    (s.ofg.state = .blind → t.ofg.budget = s.ofg.budget - s.cfg.valve.litresPerPulse) ∧
    (s.ofg.state ≠ .blind → t.ofg.budget = s.ofg.budget ∧ t.ofg.granted = s.ofg.granted) ∧
    (s.ofg.state = .blind → 0 < s.ofg.budget → s.ofg.budget ≤ s.cfg.valve.litresPerPulse → s.ofg.ceilingVolume.isSome = true →
      t.ofg.granted = false ∧ t.ofg.reason = .blind) ∧
    (s.topupRuns = false → t.fpl.allowance = s.fpl.allowance) ∧
    (∀ a, s.fpl.allowance = some a → 0 < a → s.topupRuns = true →
      t.fpl.allowance = some (a - s.cfg.valve.litresPerPulse) ∧
      (a ≤ s.cfg.valve.litresPerPulse → (t.fsq.rows.row .topup).active = false)) ∧
    (s.ofg.state ≠ .blind ∨ s.ofg.budget = 0 ∨ s.cfg.valve.litresPerPulse < s.ofg.budget →
      (∀ a, s.fpl.allowance = some a → a = 0 ∨ s.cfg.valve.litresPerPulse < a ∨ s.topupRuns = false) →
      t.ifm.fillTally = s.ifm.fillTally.map (fun n => min 4294967295 (n + s.cfg.valve.litresPerPulse)) ∧ t.fsq = s.fsq) ∧
    (s.ofg.state ≠ .blind → s.fpl.allowance = none → t.fsq = s.fsq ∧ t.fpl = s.fpl ∧ t.ofg = s.ofg) ∧
    (s.topupRuns = true ↔ s.fsq.seq ≠ .idle ∧ ∃ target, s.working = some (.topup, target)) ∧
    t.lmu = s.lmu ∧ t.tck = s.tck ∧ t.cfg = s.cfg

/-! ### Tariff clock and planner -/

/-- R71, R72, R73, R78, R83, R84, R85: an advance: the uptime, the time of week, the band at a minute boundary, and the day that closes at a
midnight crossing. -/
def Obligations.ClockAdvance : Prop :=
  ∀ s : State, ∃ t, exec .advance s = .next t ∧ t.tck.uptime = s.tck.uptime + 1 ∧ t.cfg = s.cfg ∧ t.lmu = s.lmu ∧
    (s.tck.time = none → t = (s.drawOrder.withTck { s.tck with uptime := s.tck.uptime + 1 })) ∧
    (∀ d q, s.tck.time = some ⟨d, q⟩ → q + 1 < 86400 → t.tck.time = some ⟨d, q + 1⟩) ∧
    (∀ d q, s.tck.time = some ⟨d, q⟩ → 86400 ≤ q + 1 → t.tck.time = some ⟨(d + 1) % 7, 0⟩) ∧
    (∀ u, t.tck.time = some u → u.seconds % 60 ≠ 0 →
      t = (s.drawOrder.withTck { s.tck with uptime := s.tck.uptime + 1, time := some u })) ∧
    (∀ u, t.tck.time = some u → u.seconds % 60 = 0 → t.tck.band = bandAt s.cfg.calendar (u.day * 1440 + u.seconds / 60)) ∧
    (∀ u, t.tck.time = some u → u.seconds ≠ 0 → t.fpl.ring = s.fpl.ring ∧ t.fpl.openDay = s.fpl.openDay) ∧
    (∀ u, t.tck.time = some u → u.seconds = 0 →
      t.fpl.openDay = ⟨some u.day, .midnight, s.lmu.sample.planningVolume, false, false, false⟩ ∧ t.ifm.dayPulses = 0 ∧
      ∃ x : ClosedDay, t.fpl.ring = (s.fpl.ring ++ [x]).drop (s.fpl.ring.length + 1 - 7) ∧
        x.opening.day = s.fpl.openDay.day ∧ x.opening.openedBy = s.fpl.openDay.openedBy ∧
        x.opening.vStart = s.fpl.openDay.vStart ∧ x.opening.partialDay = s.fpl.openDay.partialDay ∧
        x.opening.adjusted = s.fpl.openDay.adjusted ∧
        x.vEnd = s.lmu.sample.planningVolume ∧ x.inflow = s.ifm.dayPulses * s.cfg.valve.litresPerPulse ∧
        (∀ a b, s.fpl.openDay.vStart = some a → s.lmu.sample.planningVolume = some b →
          x.draw = some (((x.inflow : Int) - ((b : Int) - (a : Int))).toNat)) ∧
        (s.fpl.openDay.vStart = none ∨ s.lmu.sample.planningVolume = none → x.draw = none ∧ x.opening.noVolume = true))

/-- R77, R86, R76, R78, R79: an accepted CLOCK_SET, in every part state and during a commit, and an accepted TARIFF_SET. -/
def Obligations.ClockAndTariffSet : Prop :=
  (∀ (s : State) (tag : Byte) (d q : Nat), s.free → d ≤ 6 → q ≤ 86399 →
    ∃ t, exec (.clockSet tag (numField d) (numField q)) s = .next t ∧ t.replied 0x91 tag [] ∧
      t.tck.time = some ⟨d, q⟩ ∧ t.tck.uptime = s.tck.uptime ∧ t.tck.band = bandAt s.cfg.calendar (d * 1440 + q / 60) ∧
      t.fpl.openDay = { s.fpl.openDay with day := some d, adjusted := true } ∧ t.fpl.ring = s.fpl.ring ∧
      t.cfg = s.cfg ∧ t.sst.image = s.sst.image ∧ t.sst.writing = s.sst.writing ∧ t.lmu = s.lmu) ∧
  (∀ (s : State) (tag : Byte) (ws : List Window), s.free → s.commitIdle → ws.length ≤ 8 →
    (∀ w, w ∈ ws → w.start ≤ 1439 ∧ 1 ≤ w.length ∧ w.length ≤ 1440 ∧ w.days ≠ 0 ∧ w.band ≠ .standard) →
    (∀ (i j : Nat) (v w : Window) (m : Nat), i < j → ws[i]? = some v → ws[j]? = some w → m < 10080 → ¬(v.covers m = true ∧ w.covers m = true)) →
    ∃ t, exec (.tariffSet tag (tariffFields ws)) s = .next t ∧ t.replied 0x93 tag [] ∧
      t.cfg = { s.cfg with calendar := ws } ∧ t.tck.time = s.tck.time ∧ t.tck.uptime = s.tck.uptime ∧
      (∀ u, s.tck.time = some u → t.tck.band = bandAt ws (u.day * 1440 + u.seconds / 60)) ∧
      (s.tck.time = none → t.tck.band = .standard) ∧ t.sst.image = s.sst.image ∧ t.lmu = s.lmu)

/-- R74, R78, R80: the minutes a window covers, the band of a minute, and the run remaining. -/
def Obligations.BandRule : Prop :=
  (∀ (w : Window) (m : Nat), m < 10080 → w.length ≤ 1440 →
    (w.covers m = true ↔
      ∃ d k, d < 7 ∧ w.days.getLsbD d = true ∧ k < w.length ∧ (d * 1440 + w.start + k) % 10080 = m)) ∧
  (∀ (calendar : List Window) (m : Nat) (w : Window), w ∈ calendar → w.covers m = true →
    (∀ v, v ∈ calendar → v.covers m = true → v = w) → bandAt calendar m = w.band) ∧
  (∀ (calendar : List Window) (m : Nat), (∀ v, v ∈ calendar → v.covers m = false) → bandAt calendar m = .standard) ∧
  (∀ (calendar : List Window) (m : Nat), m < 10080 →
    1 ≤ runRemaining calendar m ∧ runRemaining calendar m ≤ 10080 ∧
    (∀ k, k < runRemaining calendar m → bandAt calendar ((m + k) % 10080) = bandAt calendar m) ∧
    (runRemaining calendar m < 10080 →
      bandAt calendar ((m + runRemaining calendar m) % 10080) ≠ bandAt calendar m)) ∧
  (∀ s : State, s.tck.time = none → s.evalBand = .standard ∧ s.runLeft = none)

/-- R88, R89 to R93: the forecast from the day ring, the figures of a plan with a table that looks at a sample record x with sight, and a plan without sight made at a change
into CHEAP, whose notice carries its flag alone (the first field, which names the event MADE, is that of log entry 12). -/
def Obligations.ForecastAndPlan : Prop :=
  (∀ (c : PlanSettings) (ring : List ClosedDay),
    let usable := ring.filter fun x => !x.opening.partialDay && !x.opening.adjusted && !x.opening.noVolume
    let n := usable.length
    let d := (usable.map fun x => x.draw.getD 0).sum
    let f0 := if n = 0 then c.defaultDrawL else (d + n - 1) / n
    forecast c ring = ⟨n, d, min 16000000 ((f0 * (100 + c.marginPct) + 99) / 100)⟩) ∧
  (∀ (s : State) (x : SampleRecord) (cause : BandCause) (vNow vCeil w : Nat), x.active.isSome = true → s.cfg.strap ≠ [] →
    x.planningVolume = some vNow → s.ofg.ceilingVolume = some vCeil → s.runLeft = some w →
    ∃ f, (s.newPlan x cause).figures = some f ∧
      f.vNow = vNow ∧ volumeAt s.cfg.strap s.cfg.plan.floorMm = some f.vFloor ∧ f.vCeil = vCeil ∧ f.w = w ∧
      f.qEff = s.fpl.learned.getD s.cfg.plan.qCapLpm ∧ f.f = (forecast s.cfg.plan s.fpl.ring).f ∧
      f.vWant = f.vFloor + f.f ∧ f.vTarget = min f.vWant f.vCeil ∧
      ((s.newPlan x cause).ceilingLimited = true ↔ f.vCeil < f.vWant) ∧
      f.targetLevel = levelAt s.cfg.strap f.vTarget ∧
      f.need = ((f.vTarget : Int) - (f.vNow : Int)).toNat ∧ f.capacity = f.qEff * f.w ∧
      (f.need ≤ f.capacity → f.planned = f.need ∧ f.shortfall = 0) ∧
      (f.capacity < f.need → f.planned = f.capacity ∧ f.shortfall = f.need - f.capacity) ∧
      f.minutes = (f.planned + f.qEff - 1) / f.qEff ∧
      f.planned ≤ f.qEff * f.w ∧ f.planned ≤ f.vCeil - f.vNow ∧
      (f.planned = 0 → (s.newPlan x cause).startState = .notNeeded) ∧
      (0 < f.planned → s.cfg.plan.planStart = .early → (s.newPlan x cause).startState = .raised)) ∧
  (∀ (s : State) (tag : Byte) (d q : Nat), s.free → d ≤ 6 → q ≤ 86399 → s.lmu.sample.active = none → s.tck.band ≠ .cheap →
    bandAt s.cfg.calendar (d * 1440 + q / 60) = .cheap →
    ∃ t, exec (.clockSet tag (numField d) (numField q)) s = .next t ∧ t.fpl.allowance = none ∧
      t.fpl.plan = some
        { uptime := s.now, time := some ⟨d, q⟩, cause := .clockSet, noSight := true, planStart := s.cfg.plan.planStart,
          lateSlackMin := none, startState := .notNeeded }) ∧
  (∀ (p : Plan) (s : State), p.figures = none → noticePlan p s = s.raise .plan [0, p.flagMask])

/-! ### Frost heating -/

/-- R148, R149, R152, R28, R157: an arrival at a temperature port, and the expiry of a validity timer. -/
def Obligations.Temperatures : Prop :=
  (∀ (s : State) (port : TempPort) (v : Int), ∃ t, exec (.temperatureArrival port v) s = .next t ∧
    t.fhc.temps = s.fhc.temps.put port ⟨some v, s.now, some ⟨s.now, 60⟩⟩ ∧
    t.fhc.startHold = false ∧ t.fhc.season = s.fhc.season ∧ t.cfg = s.cfg ∧ t.tck = s.tck ∧ t.lmu = s.lmu ∧
    (port ≠ .overflow → t.fhc.pathProven = s.fhc.pathProven ∧ t.ofg = s.ofg) ∧
    (port = .overflow → s.fhc.season ≠ .out →
      t.fhc.pathProven = decide (-500 ≤ v ∧ v ≤ 800 ∧ s.cfg.heat.ovfReadyT ≤ v)) ∧
    (port = .overflow → s.fhc.season = .out → t.fhc.pathProven = true) ∧
    (t.fhc.pathProven ≠ s.fhc.pathProven →
      t.ofg.ceilingMm =
        s.cfg.ofg.warnMm - s.cfg.ofg.ceilingMarginMm - (if t.fhc.pathProven then 0 else s.cfg.ofg.frostDerateMm) ∧
      t.ofg.ceilingVolume = volumeAt s.cfg.strap t.ofg.ceilingMm)) ∧
  (∀ (s : State) (port : TempPort), (s.fhc.temps.get port).validity.isSome = true →
    ∃ t, exec (.validityTimerExpiry port) s = .next t ∧
      t.fhc.temps = s.fhc.temps.put port { s.fhc.temps.get port with validity := none } ∧
      (t.fhc.temps.get port).reading = none ∧
      (port = .overflow → t.fhc.pathProven = decide (s.fhc.season = .out)))

/-- R150, R151, R152: a season step with the AMBIENT reading absent or present. -/
def Obligations.SeasonStep : Prop :=
  ∀ s : State, ∃ t, exec .seasonStep s = .next t ∧ t.fhc.seasonTimer = some ⟨s.now, 60⟩ ∧ t.fhc.temps = s.fhc.temps ∧
    t.cfg = s.cfg ∧
    (∀ v, s.fhc.temps.ambient.reading = some v →
      let cold := if v ≤ s.cfg.heat.frostOnT then min 720 (s.fhc.cold + 1) else 0
      let warm := if s.cfg.heat.frostOffT ≤ v then min 720 (s.fhc.warm + 1) else 0
      let valid := min 720 (s.fhc.valid + 1)
      let persist := s.cfg.heat.frostPersistMin
      (s.fhc.season = .out → persist ≤ cold →
        t.fhc.season = .inSeason ∧ t.fhc.cold = 0 ∧ t.fhc.warm = 0 ∧ t.fhc.valid = 0) ∧
      (s.fhc.season = .out → cold < persist → t.fhc.season = .out ∧ t.fhc.cold = cold ∧ t.fhc.warm = warm ∧ t.fhc.valid = valid) ∧
      (s.fhc.season = .inSeason ∨ s.fhc.season = .unknown → persist ≤ warm →
        t.fhc.season = .out ∧ t.fhc.cold = 0 ∧ t.fhc.warm = 0 ∧ t.fhc.valid = 0 ∧ t.fhc.pathProven = true) ∧
      (s.fhc.season = .inSeason → warm < persist →
        t.fhc.season = .inSeason ∧ t.fhc.cold = cold ∧ t.fhc.warm = warm ∧ t.fhc.valid = valid) ∧
      (s.fhc.season = .unknown → warm < persist → persist ≤ valid → t.fhc.season = .inSeason ∧ t.fhc.valid = 0) ∧
      (s.fhc.season = .unknown → warm < persist → valid < persist →
        t.fhc.season = .unknown ∧ t.fhc.cold = cold ∧ t.fhc.warm = warm ∧ t.fhc.valid = valid)) ∧
    (s.fhc.temps.ambient.reading = none → s.fhc.cold < s.cfg.heat.frostPersistMin → s.fhc.warm < s.cfg.heat.frostPersistMin →
      s.fhc.valid < s.cfg.heat.frostPersistMin →
      t = s.drawOrder.withFhc { s.fhc with seasonTimer := some ⟨s.now, 60⟩ })

/-- R158, R159: a run of the arbitration: which zones may be ON after it, what they draw, that the highest candidate is never passed over
for want of power that others take, and what the run leaves alone. -/
def Obligations.HeatRun : Prop :=
  ∀ s : State, s.fhc.startHold = false →
    (∀ z, ((powerRun s).fhc.zones.get z).state = .on →
      (s.cfg.zones.get z).enabled = true ∧ (s.fhc.zones.get z).need = true ∧ (s.fhc.zones.get z).state ≠ .fault ∧
      s.heatCut = false) ∧
    (powerRun s).powerUsed ≤ s.budget ∧
    (∀ z, (s.cfg.zones.get z).enabled = true → (s.fhc.zones.get z).need = true → (s.fhc.zones.get z).state ≠ .fault →
      s.heatCut = false →
      (∀ y, y ≠ z → (s.fhc.zones.get y).need = true →
        effPriority (s.cfg.zones.get y) (s.fhc.zones.get y) < effPriority (s.cfg.zones.get z) (s.fhc.zones.get z)) →
      (∀ y, (s.fhc.zones.get y).state = .on → (s.fhc.zones.get y).minOn = none) →
      ((s.cfg.zones.get z).powerW ≤ s.budget ↔ ((powerRun s).fhc.zones.get z).state = .on)) ∧
    (∀ z, ((powerRun s).fhc.zones.get z).need = (s.fhc.zones.get z).need ∧
      ((powerRun s).fhc.zones.get z).boost = (s.fhc.zones.get z).boost ∧
      ((s.fhc.zones.get z).state = .fault → (powerRun s).fhc.zones.get z = s.fhc.zones.get z)) ∧
    (powerRun s).fhc.lastBudget = some s.budget ∧ (powerRun s).fhc.temps = s.fhc.temps ∧
    (powerRun s).fhc.season = s.fhc.season ∧ (powerRun s).ofg = s.ofg ∧ (powerRun s).fsq = s.fsq ∧ (powerRun s).svp = s.svp

/-- R157, R160, R161: the start timer ends the start hold with the first run; a min-on expiry ends a zone's protection and takes a run; a
confirm expiry with the zone still ON gives the proof or the heater fault. -/
def Obligations.ZoneTimers : Prop :=
  (∀ s : State, s.fhc.startHold = true → s.fhc.startTimer.isSome = true →
    ∃ t, exec .startTimerExpiry s = .next t ∧ t.fhc.startHold = false ∧ t.fhc.startTimer = none ∧
      t.fhc.lastBudget = some s.budget ∧ t.powerUsed ≤ t.budget ∧ t.fhc.temps = s.fhc.temps ∧
      (∀ z v, (s.fhc.temps.get (zonePort z)).reading = some v →
        (v ≤ (s.cfg.zones.get z).onT → (t.fhc.zones.get z).need = true) ∧
        ((s.cfg.zones.get z).onT < v → (s.cfg.zones.get z).offT ≤ v → (t.fhc.zones.get z).need = false)) ∧
      (∀ z, (s.fhc.temps.get (zonePort z)).reading = none → (t.fhc.zones.get z).need = decide (s.fhc.season ≠ .out))) ∧
  (∀ (s : State) (z : Zone), (s.fhc.zones.get z).state = .on → (s.fhc.zones.get z).minOn.isSome = true →
    ∃ t, exec (.minOnExpiry z) s = .next t ∧ (t.fhc.zones.get z).minOn = none ∧
      (s.fhc.startHold = false → t.fhc.lastBudget = some s.budget) ∧
      t.fhc.temps = s.fhc.temps ∧ t.ofg = s.ofg ∧ t.fsq = s.fsq ∧ t.svp = s.svp ∧ t.cfg = s.cfg) ∧
  (∀ (s : State) (z : Zone), (s.fhc.zones.get z).state = .on → (s.fhc.zones.get z).confirm.isSome = true →
    (∀ a v, (s.fhc.zones.get z).onTemp = some a → s.zoneReading z = some v →
      (a + s.cfg.heat.confirmRise ≤ v ∨ (s.cfg.zones.get z).offT ≤ v →
        exec (.confirmExpiry z) s =
          .next (setZone z { s.fhc.zones.get z with confirm := none, proof := some .proven } s)) ∧
      (v < a + s.cfg.heat.confirmRise → v < (s.cfg.zones.get z).offT →
        ∃ t, exec (.confirmExpiry z) s = .next t ∧
          t.fhc.zones.get z =
            { s.fhc.zones.get z with state := .fault, minOn := none, confirm := none, proof := some .failed } ∧
          t.ofg = s.ofg ∧ t.fsq = s.fsq ∧ t.cfg = s.cfg)) ∧
    ((s.fhc.zones.get z).onTemp = none ∨ s.zoneReading z = none →
      exec (.confirmExpiry z) s = .next (setZone z { s.fhc.zones.get z with confirm := none, proof := some .unjudged } s)))

/-- R64, R162: FAULT_CLEAR naming the valve, by the valve's state, and naming a zone. That the guard's pass count starts afresh at a clear that
removes PASSING, and goes on at any other, is the model's reading of the last sentence of R64 (log entry 43). -/
def Obligations.FaultClear : Prop :=
  (∀ (s : State) (tag : Byte), s.free → s.ivd.state = .closed → s.ivd.faults.isEmpty = false →
    ∃ t, exec (.faultClearValve tag) s = .next t ∧ t.replied 0x8D tag [] ∧ t.ivd.faults = ⟨none, none, none, none, 0⟩ ∧
      t.ivd.forceClose = s.ivd.forceClose ∧ t.ofg.state = s.ofg.state ∧ t.cfg = s.cfg ∧
      t.ofg.passCount = (if s.ivd.faults.passing = none then s.ofg.passCount else 0)) ∧
  (∀ (s : State) (tag : Byte), s.free → s.ivd.state = .closed → s.ivd.faults.isEmpty = true →
    exec (.faultClearValve tag) s = .next (s.drawOrder.answered 0x8D tag [])) ∧
  (∀ (s : State) (tag : Byte), s.free →
    s.ivd.state = .opening ∨ s.ivd.state = .opened ∨ s.ivd.state = .closing ∨ (∃ c, s.ivd.state = .fault c) →
    exec (.faultClearValve tag) s = .next (s.drawOrder.refused tag 0x0D 6 [])) ∧
  (∀ (s : State) (tag : Byte) (z : Zone), s.free → (s.fhc.zones.get z).state = .fault →
    ∃ t, exec (.faultClearZone tag (numField (zoneNumber z))) s = .next t ∧ t.replied 0x8D tag [] ∧
      ((s.cfg.zones.get z).enabled = false → (t.fhc.zones.get z).state = .disabled) ∧
      ((s.cfg.zones.get z).enabled = true →
        (t.fhc.zones.get z).state = .off ∨ (t.fhc.zones.get z).state = .want ∨ (t.fhc.zones.get z).state = .on) ∧
      t.ivd = s.ivd ∧ t.ofg = s.ofg ∧ t.fsq = s.fsq ∧ t.cfg = s.cfg) ∧
  (∀ (s : State) (tag : Byte) (z : Zone), s.free → (s.fhc.zones.get z).state ≠ .fault →
    exec (.faultClearZone tag (numField (zoneNumber z))) s = .next (s.answered 0x8D tag [])) ∧
  (∀ (s : State) (tag : Byte) (x : Word), s.free → inRange 0 4 x.toInt = false →
    exec (.faultClearZone tag x) s = .next (s.refused tag 0x0D 3 [0]))

/-! ### Fill Sequencer -/

/-- R112, R114, R116, R120: the prepare, call and release timers expire in the states that run them. R145: the UNCALLED_SUPPLY notice of a
release timeout, raised before the release ends (log entry 24). A stopped timer's expiry only draws the order of hand-overs (log entries 3
and 4). -/
def Obligations.FillTimers : Prop :=
  (∀ (s : State) (f : FillRecord), s.fsq.seq = .prepare → s.fsq.prepareTimer.isSome = true → s.fsq.fill = some f →
    s.ivd.state = .closed → s.ivd.forceClose = false →
    ∃ t, exec .prepareTimerExpiry s = .next t ∧ t.fsq.seq = .opening ∧ t.fsq.prepareTimer = none ∧
      t.fsq.fill = some { f with prepareExpired := true } ∧
      t.ivd = { s.ivd with
        state := .opening, drive := .opening, watchdog := some ⟨s.now, s.cfg.valve.valveTravelS⟩, reprove := none } ∧
      t.fsq.rows = s.fsq.rows ∧ t.ofg = s.ofg ∧ t.cfg = s.cfg) ∧
  (∀ (s : State) (f : FillRecord), s.fsq.seq = .calling → s.fsq.callTimer.isSome = true → s.fsq.fill = some f →
    f.cause = none → s.ivd.state = .opened → s.sli.accepted ≠ some .running →
    ∃ t, exec .callTimerExpiry s = .next t ∧ t.fsq.seq = .closing ∧ t.fsq.callTimer = none ∧
      t.fsq.fill = some { f with cause := some .callTimeout, endUptime := some s.now } ∧ t.sli.wishCall = false ∧
      t.ivd = { s.ivd with state := .closing, drive := .closing, watchdog := some ⟨s.now, s.cfg.valve.valveTravelS⟩ } ∧
      t.fsq.rows = s.fsq.rows ∧ t.cfg = s.cfg) ∧
  (∀ (s : State) (f : FillRecord), s.fsq.seq = .releasing → s.fsq.releaseTimer.isSome = true → s.fsq.fill = some f →
    s.ivd.state = .opened →
    ∃ t, exec .releaseTimerExpiry s = .next t ∧ t.fsq.seq = .closing ∧ t.fsq.releaseTimer = none ∧
      t.fsq.fill = some { f with releaseTimeout := true } ∧
      t.ivd = { s.ivd with state := .closing, drive := .closing, watchdog := some ⟨s.now, s.cfg.valve.valveTravelS⟩ } ∧
      t.fsq.rows = s.fsq.rows ∧ t.sli = s.sli ∧ t.cfg = s.cfg) ∧
  (∀ s : State, s.fsq.seq = .releasing → s.fsq.releaseTimer.isSome = true →
    (s.cfg.line.supplyMode = .called → s.sli.accepted = some .running →
      exec .releaseTimerExpiry s = .next (releaseExpiry (s.drawOrder.raise .uncalledSupply
        [9, numField s.sli.outgoing.code, 5, numField s.ivd.state.code]))) ∧
    (s.cfg.line.supplyMode = .pressured ∨ s.sli.accepted ≠ some .running →
      exec .releaseTimerExpiry s = .next (releaseExpiry s.drawOrder))) ∧
  (∀ s : State, (s.fsq.prepareTimer = none → exec .prepareTimerExpiry s = .next s.drawOrder) ∧
    (s.fsq.callTimer = none → exec .callTimerExpiry s = .next s.drawOrder) ∧
    (s.fsq.releaseTimer = none → exec .releaseTimerExpiry s = .next s.drawOrder))

/-- R111, R112, R122: the retry timer expires with every condition of a start met and a row allowed: the fill starts. R107: the turnover timer
expires in the frost season. With the retry timer stopped only the order of hand-overs is drawn (log entries 3 and 4). -/
def Obligations.FillStarts : Prop :=
  (∀ (s : State) (k : Kind) (target : Nat), s.fsq.retryTimer.isSome = true → s.fsq.seq = .idle → s.ofg.granted = true →
    s.ivd.state = .closed → s.ivd.forceClose = false → s.ivd.faults.isEmpty = true → s.sst.part = .running → s.ofg.test = none →
    s.fsq.hold = false → s.working = some (k, target) →
    ∃ t, exec .retryTimerExpiry s = .next t ∧ t.fsq.retryTimer = none ∧ t.ifm.fillTally = some 0 ∧
      t.fsq.rows = s.fsq.rows ∧ t.fpl.stallMark = s.ifm.stall ∧
      (∃ f, t.fsq.fill = some f ∧ f.start = s.now ∧ f.kind = k ∧ f.finalKind = k ∧ f.targetStart = target ∧ f.targetEnd = target ∧
        f.mode = s.cfg.line.supplyMode ∧ f.vStart = s.lmu.sample.planningVolume ∧ f.cause = none ∧
        f.planned = (if k = .night then s.fsq.rows.night.planned else none)) ∧
      (s.fhc.pathProven = true ∨ s.cfg.frostFill.prepareMaxMin = 0 →
        t.fsq.seq = .opening ∧ t.ivd.state = .opening ∧ t.ivd.drive = .opening) ∧
      (s.fhc.pathProven = false → s.cfg.frostFill.prepareMaxMin ≠ 0 →
        t.fsq.seq = .prepare ∧ t.fsq.prepareTimer = some ⟨s.now, s.cfg.frostFill.prepareMaxMin * 60⟩ ∧ t.ivd = s.ivd)) ∧
  (∀ s : State, s.fsq.retryTimer = none → exec .retryTimerExpiry s = .next s.drawOrder) ∧
  (∀ (s : State) (c v : Nat), s.fhc.season ≠ .out → s.ofg.ceilingVolume = some c → s.lmu.sample.planningVolume = some v →
    ∃ t, exec .turnoverTimerExpiry s = .next t ∧
      t.fsq.turnoverTimer = some ⟨s.now, s.cfg.frostFill.turnoverH * 3600⟩ ∧
      (s.cfg.frostFill.turnoverL / 2 + v ≤ c →
        (t.fsq.rows.row .turnover).active = true ∧ (t.fsq.rows.row .turnover).raised = some s.now ∧
        (t.fsq.rows.row .turnover).target = min (v + s.cfg.frostFill.turnoverL) c) ∧
      (c < s.cfg.frostFill.turnoverL / 2 + v → t.fsq.rows = s.fsq.rows)) ∧
  (∀ s : State, s.fhc.season = .out →
    exec .turnoverTimerExpiry s = .next (s.drawOrder.withFsq
      { s.fsq with turnoverTimer := some ⟨s.now, s.cfg.frostFill.turnoverH * 3600⟩ }))

/-- R108, R123: FILL_NOW with a level and with the cancel form, FILL_HOLD on and off, in every part state and during a commit. The layout of
the FILL_NOW acceptance is the model's (log entry 11), and so is the choice that the open record takes its seconds in FILLING at the end event
(log entry 20). -/
def Obligations.FillRequests : Prop :=
  (∀ (s : State) (tag : Byte) (level v c : Nat), s.free → level ≤ 20000 → volumeAt s.cfg.strap level = some v →
    s.ofg.ceilingVolume = some c →
    ∃ t, exec (.fillNow tag (numField level)) s = .next t ∧
      t.replied 0x9A tag (fieldBytes [numField (min v c), optNum (levelAt s.cfg.strap (min v c)), if c < v then 1 else 0]) ∧
      (t.fsq.rows.row .manual).active = true ∧ (t.fsq.rows.row .manual).target = min v c ∧
      (t.fsq.rows.row .manual).raised = some s.now ∧ (t.fsq.rows.row .manual).attempts = 0 ∧
      (t.fsq.rows.row .manual).level = some level ∧ t.cfg = s.cfg ∧ t.lmu = s.lmu) ∧
  (∀ (s : State) (tag : Byte) (level : Nat), s.free → level ≤ 20000 → s.cfg.strap = [] →
    exec (.fillNow tag (numField level)) s = .next (s.drawOrder.refused tag 0x1A 6 [])) ∧
  (∀ (s : State) (tag : Byte) (level : Word), s.free → level ≠ 0x80000000#32 → inRange 0 20000 level.toInt = false →
    exec (.fillNow tag level) s = .next (s.drawOrder.refused tag 0x1A 3 [0])) ∧
  (∀ (s : State) (tag : Byte), s.free →
    ∃ t, exec (.fillNowCancel tag) s = .next t ∧ t.replied 0x9A tag [] ∧ (t.fsq.rows.row .manual).active = false ∧
      t.cfg = s.cfg ∧ t.lmu = s.lmu) ∧
  (∀ (s : State) (tag : Byte), s.free →
    ∃ t, exec (.fillHoldOn tag) s = .next t ∧ t.replied 0x9B tag [] ∧ t.fsq.hold = true ∧ t.fsq.rows = s.fsq.rows ∧
      (∀ f, s.fsq.seq = .filling → s.fsq.fill = some f → f.cause = none → s.ivd.state = .opened →
        t.sli.wishCall = false ∧ (t.fsq.seq = .releasing ∨ t.fsq.seq = .closing) ∧
        t.fsq.fill = some { f with
          cause := some .host, endUptime := some s.now, fillingSeconds := elapsed s.now (f.fillingAt.getD s.now) })) ∧
  (∀ (s : State) (tag : Byte), s.free →
    ∃ t, exec (.fillHoldOff tag) s = .next t ∧ t.replied 0x9B tag [] ∧ t.fsq.hold = false ∧ t.fsq.rows = s.fsq.rows ∧
      (s.fsq.seq ≠ .idle → t.fsq.seq = s.fsq.seq ∧ t.ivd = s.ivd))

/-! ### Station line -/

/-- R129, R130, R131: the line period expires, and the frame's check, stuffing and length. -/
def Obligations.LinePeriodFrame : Prop :=
  (∀ s : State, exec .linePeriodExpiry s = .next (s.withSli { s.sli with
      lastSent := some s.sli.outgoing
      lineOut := lineFrame s.cfg.line.lineAddress s.sli.outgoing.code
      periodTimer := some ⟨s.now, s.cfg.line.linePeriodS⟩ })) ∧
  (∀ l : Sli, (l.holdRequest = true → l.outgoing = .hold) ∧
    (l.holdRequest = false → l.wishCall = true → l.outgoing = .call) ∧
    (l.holdRequest = false → l.wishCall = false → l.outgoing = .idle)) ∧
  TowerCode.idle.code = 0 ∧ TowerCode.call.code = 1 ∧ TowerCode.hold.code = 2 ∧
  (∀ (reg : BitVec 8) (bit : Bool), crc8Step reg bit = if reg.msb = bit then reg <<< 1 else (reg <<< 1) ^^^ 7#8) ∧
  (∀ address code : Nat, ∃ body : List Bool,
    lineFrame address code = [false, true, true, true, true, false] ++ body ++ [false, true, true, true, true, false] ∧
    18 ≤ body.length ∧ body.length ≤ 24 ∧ ¬([true, true, true, true] <:+: body)) ∧
  lineFrame 7 2 = [false, true, true, true, true, false] ++
    [true, true, true, false, false, false, false, false, true, false, false, false, true, false, true, false, true, false, true] ++
    [false, true, true, true, true, false]

/-- R134, R135, R136, R139, R141, R147: a good frame in OK or WARN, and in LOST. A frame that comes as a command leaves the receiver in its
discard state (log entry 30). -/
def Obligations.GoodFrame : Prop :=
  (∀ (s : State) (a : BitVec 6) (c : BitVec 4) (k : StationCode), s.sli.state ≠ .lost → a.toNat = s.cfg.line.lineAddress →
    k.code = c.toNat →
    ∃ t, exec (.stationFrame a c (lineCheck a.toNat c.toNat)) s = .next t ∧
      t.sli.counter = s.sli.counter - 1 ∧ t.sli.state = (if 96 ≤ s.sli.counter - 1 then .warn else .ok) ∧
      t.sli.silenceTimer = some ⟨s.now, 3 * s.cfg.line.linePeriodS⟩ ∧ t.sli.candidate = some k ∧
      t.sli.persist =
        (if s.sli.candidate = some k then min s.cfg.line.persistN (s.sli.persist + 1) else 1) ∧
      t.sli.accepted = (if s.cfg.line.persistN ≤ t.sli.persist then some k else s.sli.accepted) ∧
      t.sli.lastError = s.sli.lastError ∧ t.sli.logCount = s.sli.logCount ∧ t.sli.holdRequest = s.sli.holdRequest ∧
      (s.cfg.line.persistN ≤ t.sli.persist → s.sli.accepted ≠ some k → k = .blocked → s.fsq.seq = .calling →
        ∀ f, s.fsq.fill = some f → f.cause = none →
          t.sli.wishCall = false ∧ (s.ivd.state = .opened → t.fsq.seq = .closing ∧
            t.fsq.fill = some { f with cause := some .stationBlocked, endUptime := some s.now })) ∧
      (s.cfg.line.persistN ≤ t.sli.persist → s.sli.accepted ≠ some k → k = .running → s.fsq.seq = .calling →
        t.fsq.seq = .filling)) ∧
  (∀ (s : State) (a : BitVec 6) (c : BitVec 4) (k : StationCode), s.sli.state = .lost → a.toNat = s.cfg.line.lineAddress →
    k.code = c.toNat →
    (s.sli.recovery + 1 < 16 →
      exec (.stationFrame a c (lineCheck a.toNat c.toNat)) s = .next (s.drawOrder.withSli { s.sli with
        rx := .discard, recovery := s.sli.recovery + 1, silenceTimer := some ⟨s.now, 3 * s.cfg.line.linePeriodS⟩ })) ∧
    (16 ≤ s.sli.recovery + 1 →
      ∃ t, exec (.stationFrame a c (lineCheck a.toNat c.toNat)) s = .next t ∧
        t.sli = { s.sli with
          rx := .discard, state := .ok, counter := 0, recovery := 0,
          silenceTimer := some ⟨s.now, 3 * s.cfg.line.linePeriodS⟩ } ∧
        t.fsq = s.fsq ∧ t.ifm = s.ifm ∧ t.ofg = s.ofg))

/-- R134, R137, R138, R139, R140, R142: the order of judging a bad frame, and what an error of any kind does, a SILENCE among them. -/
def Obligations.LineErrors : Prop :=
  (∀ (working : Nat) (a : BitVec 6) (c : BitVec 4) (check : BitVec 8),
    (lineCheck a.toNat c.toNat ≠ check → judgeFrame working a c check = .error .check) ∧
    (lineCheck a.toNat c.toNat = check → a.toNat ≠ working → judgeFrame working a c check = .error .address) ∧
    (lineCheck a.toNat c.toNat = check → a.toNat = working → c.toNat < 8 ∨ 11 < c.toNat →
      judgeFrame working a c check = .error .code)) ∧
  (∀ (s : State) (a : BitVec 6) (c : BitVec 4) (check : BitVec 8) (kind : LineError),
    judgeFrame s.cfg.line.lineAddress a c check = .error kind →
    ∃ t, exec (.stationFrame a c check) s = .next t ∧ t.sli.lastError = kind ∧
      (s.sli.logCount < 255 → t.sli.logCount = s.sli.logCount + 1) ∧
      (s.sli.state ≠ .lost → s.sli.counter + 8 ≤ 255 →
        t.sli.counter = s.sli.counter + 8 ∧ t.sli.state = (if 96 ≤ s.sli.counter + 8 then .warn else .ok) ∧
        t.sli.accepted = s.sli.accepted ∧ t.sli.candidate = s.sli.candidate ∧ t.sli.persist = s.sli.persist ∧ t.fsq = s.fsq) ∧
      (s.sli.state ≠ .lost → 255 < s.sli.counter + 8 →
        t.sli.state = .lost ∧ t.sli.counter = 255 ∧ t.sli.accepted = none ∧ t.sli.candidate = none ∧ t.sli.recovery = 0) ∧
      (s.sli.state = .lost → t.sli.state = .lost ∧ t.sli.counter = s.sli.counter ∧ t.sli.recovery = 0 ∧ t.fsq = s.fsq) ∧
      t.sli.silenceTimer = s.sli.silenceTimer ∧ t.cfg = s.cfg ∧ t.tck = s.tck) ∧
  (∀ s : State, ∃ t, exec .silenceTimerExpiry s = .next t ∧ t.sli.lastError = .silence ∧
    t.sli.silenceTimer = some ⟨s.now, 3 * s.cfg.line.linePeriodS⟩ ∧
    (s.sli.state ≠ .lost → s.sli.counter + 8 ≤ 255 → t.sli.counter = s.sli.counter + 8 ∧ t.sli.accepted = s.sli.accepted) ∧
    (s.sli.state ≠ .lost → 255 < s.sli.counter + 8 → t.sli.state = .lost ∧ t.sli.accepted = none))

/-- R133, R134: a bit, and the end of a burst, by the state of the receiver: the hunt, the eighteen body bits and their stuffed zeros, the closing
flag, and the bit that completes the frame. The bits of a burst that a RESTART found under way are let pass (R147; log entry 40). The end of a burst
in QUIET, which no rule has, is the model's choice (log entry 46). -/
def Obligations.LineBits : Prop :=
  (∀ (s : State) (bit : Bool), s.sli.rx = .quiet →
    exec (.stationBit bit) s = .next (s.drawOrder.withSli { s.sli with rx := .hunting [bit] })) ∧
  (∀ (s : State) (bit : Bool) (last : List Bool), s.sli.rx = .hunting last → last.length ≤ 6 →
    exec (.stationBit bit) s = .next (s.drawOrder.withSli { s.sli with
      rx := if last.drop (last.length - 5) ++ [bit] = [false, true, true, true, true, false] then .body [] 0
        else .hunting (last.drop (last.length - 5) ++ [bit]) })) ∧
  (∀ (s : State) (bits : List Bool) (ones : Nat), s.sli.rx = .body bits ones → ones = 3 →
    (∃ t, exec (.stationBit true) s = .next t ∧ t.sli.rx = .discard ∧ t.sli.lastError = .stuff) ∧
    (bits.length < 18 →
      exec (.stationBit false) s = .next (s.drawOrder.withSli { s.sli with rx := .body bits 0 }))) ∧
  (∀ (s : State) (bit : Bool) (bits : List Bool) (ones : Nat), s.sli.rx = .body bits ones → ones < 3 → bits.length < 17 →
    exec (.stationBit bit) s =
      .next (s.drawOrder.withSli { s.sli with rx := .body (bits ++ [bit]) (if bit then ones + 1 else 0) })) ∧
  (∀ (s : State) (bit : Bool) (bits : List Bool) (ones : Nat), s.sli.rx = .body bits ones → ones < 3 → bits.length = 17 →
    exec (.stationBit bit) s =
      .next (s.drawOrder.withSli { s.sli with rx := .trailer (bits ++ [bit]) (bit && decide (ones = 2)) [] })) ∧
  (∀ (s : State) (bits taken : List Bool), s.sli.rx = .trailer bits true taken →
    (∃ t, exec (.stationBit true) s = .next t ∧ t.sli.rx = .discard ∧ t.sli.lastError = .stuff) ∧
    exec (.stationBit false) s = .next (s.drawOrder.withSli { s.sli with rx := .trailer bits false taken })) ∧
  (∀ (s : State) (bit : Bool) (bits taken rest : List Bool), s.sli.rx = .trailer bits false taken →
    taken ++ bit :: rest = [false, true, true, true, true, false] →
    (rest ≠ [] →
      exec (.stationBit bit) s = .next (s.drawOrder.withSli { s.sli with rx := .trailer bits false (taken ++ [bit]) })) ∧
    (rest = [] →
      exec (.stationBit bit) s =
        exec (.stationFrame (bodyParts bits).1 (bodyParts bits).2.1 (bodyParts bits).2.2) s)) ∧
  (∀ (s : State) (bit : Bool) (bits taken : List Bool), s.sli.rx = .trailer bits false taken →
    (∀ rest, taken ++ bit :: rest ≠ [false, true, true, true, true, false]) →
    ∃ t, exec (.stationBit bit) s = .next t ∧ t.sli.rx = .discard ∧ t.sli.lastError = .stuff) ∧
  (∀ (s : State) (bit : Bool), s.sli.rx = .late ∨ s.sli.rx = .discard → exec (.stationBit bit) s = .next s.drawOrder) ∧
  (∀ s : State, s.sli.rx = .quiet ∨ s.sli.rx = .late ∨ s.sli.rx = .discard ∨ (∃ last, s.sli.rx = .hunting last) →
    exec .burstEnd s = .next (s.drawOrder.withSli { s.sli with rx := .quiet })) ∧
  (∀ s : State, (∃ bits ones, s.sli.rx = .body bits ones) ∨ (∃ bits due taken, s.sli.rx = .trailer bits due taken) →
    ∃ t, exec .burstEnd s = .next t ∧ t.sli.rx = .quiet ∧ t.sli.lastError = .stuff)

/-- R129, R130, R133: the receiver reads back from the bits of a frame exactly its address, code and check, whatever they are, and nothing
before the closing flag. -/
def Obligations.LineRoundTrip : Prop :=
  ∀ (a : BitVec 6) (c : BitVec 4), ∃ bits : List Bool,
    LineRx.feed (lineFrame a.toNat c.toNat) .quiet = (.discard, [.frame bits]) ∧
    bodyParts bits = (a, c, lineCheck a.toNat c.toNat)

/-! ### Telemetry Recorder -/

/-- R172, R170, R174, R171, R176: what becomes of an entry, by mode, trigger state and count. That the collect timer is loaded at a join after
drops that have emptied the queue, as they do with history_pre 1, is the model's choice (log entry 45). -/
def Obligations.RecorderPlaces : Prop :=
  ∀ (c : HistorySettings) (collect : Timer) (e : Entry) (r : Trc), 1 ≤ c.pre →
    let joined := { e with sequence := r.nextSequence }
    (c.mode = .off → r.place c collect e = (false, r)) ∧
    (c.mode = .idleRoll → r.trigger = .armed → r.place c collect e = (false, r)) ∧
    (c.mode = .fill → 128 ≤ r.queue.length → r.place c collect e = (false, { r with overrun := min 65535 (r.overrun + 1) })) ∧
    (c.mode = .rollFreeze → r.trigger = .frozen →
      r.place c collect e = (false, { r with overrun := min 65535 (r.overrun + 1) })) ∧
    (c.mode = .fill ∨ c.mode = .roll ∨ (c.mode = .idleRoll ∧ r.trigger = .triggered) ∨
        (c.mode = .rollFreeze ∧ r.trigger = .triggered) → r.queue.length < 128 →
      (r.place c collect e).1 = true ∧ (r.place c collect e).2.queue = r.queue ++ [joined] ∧
      (r.place c collect e).2.nextSequence = r.nextSequence + 1 ∧ (r.place c collect e).2.overrun = r.overrun ∧
      (r.place c collect e).2.collectTimer = (if r.queue = [] then collect else r.collectTimer) ∧
      (r.place c collect e).2.trigger =
        (if c.mode = .rollFreeze ∧ r.queue.length = 127 then .frozen else r.trigger)) ∧
    (c.mode = .roll ∨ (c.mode = .idleRoll ∧ r.trigger = .triggered) → r.queue.length = 128 →
      (r.place c collect e).1 = true ∧ (r.place c collect e).2.queue = r.queue.drop 1 ++ [joined] ∧
      (r.place c collect e).2.queue.length = 128 ∧
      (r.place c collect e).2.overrun = min 65535 (r.overrun + 1) ∧ (r.place c collect e).2.nextSequence = r.nextSequence + 1 ∧
      (r.place c collect e).2.collectTimer = r.collectTimer ∧ (r.place c collect e).2.trigger = r.trigger) ∧
    (c.mode = .rollFreeze → r.trigger = .armed →
      (r.place c collect e).1 = true ∧
      (r.place c collect e).2.queue = r.queue.drop (r.queue.length - (c.pre - 1)) ++ [joined] ∧
      (r.place c collect e).2.queue.length ≤ c.pre ∧
      (r.place c collect e).2.overrun = min 65535 (r.overrun + (r.queue.length - (c.pre - 1))) ∧
      (r.place c collect e).2.nextSequence = r.nextSequence + 1 ∧ (r.place c collect e).2.trigger = .armed ∧
      (r.place c collect e).2.collectTimer =
        (if r.queue.drop (r.queue.length - (c.pre - 1)) = [] then collect else r.collectTimer))

/-! ### Service Port -/

/-- R187, R188, R189: a notice at the mask and the queue, and what the transmit arbiter takes. -/
def Obligations.NoticesAndArbiter : Prop :=
  (∀ (v : Svp) (n : Notice),
    (v.mask.getLsbD (n.cls.code - 1) = false → v.takeNotice n = v) ∧
    (v.mask.getLsbD (n.cls.code - 1) = true → v.notices.length < 16 →
      v.takeNotice n = { v with notices := v.notices ++ [n] }.arbitrate) ∧
    (v.mask.getLsbD (n.cls.code - 1) = true → 16 ≤ v.notices.length →
      v.takeNotice n = { v with lost := min 255 (v.lost + 1) })) ∧
  (∀ (s : State) (cls : NoticeClass) (fields : List Word),
    s.raise cls fields = s.withSvp (s.svp.takeNotice ⟨cls, s.now, fields⟩)) ∧
  (∀ v : Svp,
    (v.tx.isSome = true → v.arbitrate = v) ∧
    (∀ r, v.tx = none → v.reply = some r → (∀ b, v.busy = some b → r.number ≤ b.number) →
      v.arbitrate = { v with tx := some ⟨.reply, r.kind, r.tag, r.body⟩ }) ∧
    (∀ b, v.tx = none → v.busy = some b → (∀ r, v.reply = some r → b.number < r.number) →
      v.arbitrate = { v with tx := some ⟨.busy, b.kind, b.tag, b.body⟩ }) ∧
    (∀ n rest, v.tx = none → v.reply = none → v.busy = none → v.notices = n :: rest →
      v.arbitrate = { v with
        notices := rest, lost := 0,
        tx := some ⟨.notice, 0x60, 0,
          [BitVec.ofNat 8 n.cls.code, BitVec.ofNat 8 v.lost] ++ wordBytes n.uptime ++ fieldBytes n.fields⟩ }) ∧
    (v.tx = none → v.reply = none → v.busy = none → v.notices = [] → v.arbitrate = v))

/-- R182, R183: the bytes of a whole frame, from HUNT, are taken as the one frame they carry, whatever its kind, tag and body. -/
def Obligations.ServiceBytesMakeFrame : Prop :=
  ∀ (s : State) (source : TxSource) (kind tag : Byte) (body : List Byte), s.svp.rx = .hunt → body.length ≤ 200 →
    (TxFrame.bytes ⟨source, kind, tag, body⟩).foldl (fun t b => serviceByte b t) s =
      serviceFrame kind tag body (crc16 (BitVec.ofNat 8 body.length :: kind :: tag :: body)) s

/-- R182, R183, R184, R185: a byte at the receiver, the gap timer, a frame whose check differs, a request that is served, and a kind or a
length that is no request's. That the expiry of a stopped gap timer changes nothing is the model's choice (log entry 3), and that SERVICE_FRAME, a
frame that comes whole, leaves the receiver in HUNT is its reading (log entry 30). -/
def Obligations.ServiceReceiver : Prop :=
  (∀ (s : State) (b : Byte), s.svp.rx = .hunt →
    exec (.serviceByte b) s =
      .next (if b = 0xA5 then s.drawOrder.withSvp { s.svp with rx := .header [], gapRunning := true } else s.drawOrder)) ∧
  (∀ (s : State) (b : Byte), s.svp.rx = .header [] → 200 < b.toNat →
    exec (.serviceByte b) s = .next (s.drawOrder.withSvp { s.svp with
      rx := .hunt, gapRunning := false, lengthErrors := min 65535 (s.svp.lengthErrors + 1) })) ∧
  (∀ s : State,
    (s.svp.gapRunning = true → exec .gapTimerExpiry s = .next (s.withSvp { s.svp with
      rx := .hunt, gapRunning := false, gapErrors := min 65535 (s.svp.gapErrors + 1) })) ∧
    (s.svp.gapRunning = false → exec .gapTimerExpiry s = .next s)) ∧
  (∀ (s : State) (kind tag : Byte) (body : List Byte) (check : BitVec 16), body.length ≤ 200 →
    crc16 (BitVec.ofNat 8 body.length :: kind :: tag :: body) ≠ check →
    exec (.serviceFrame kind tag body check) s = .next (s.drawOrder.withSvp { s.svp with
      rx := .hunt, gapRunning := false, checkErrors := min 65535 (s.svp.checkErrors + 1) })) ∧
  (∀ (s : State) (tag : Byte), s.free →
    let u := s.drawOrder.withSvp { s.svp with rx := .hunt, gapRunning := false }
    exec (.serviceFrame 0x01 tag [] (crc16 [0, 0x01, tag])) s = .next (u.answered 0x81 tag u.statusBody)) ∧
  (∀ (s : State) (kind tag : Byte) (body : List Byte), s.free → body.length ≤ 200 → kind = 0 ∨ 0x27 < kind.toNat →
    exec (.serviceFrame kind tag body (crc16 (BitVec.ofNat 8 body.length :: kind :: tag :: body))) s =
      .next ((s.drawOrder.withSvp { s.svp with rx := .hunt, gapRunning := false }).refused tag kind 1 [])) ∧
  (∀ (s : State) (tag : Byte) (body : List Byte), s.free → body ≠ [] → body.length ≤ 200 →
    exec (.serviceFrame 0x01 tag body (crc16 (BitVec.ofNat 8 body.length :: 0x01 :: tag :: body))) s =
      .next ((s.drawOrder.withSvp { s.svp with rx := .hunt, gapRunning := false }).refused tag 0x01 2 []))

/-- R184, R182, R183: a good frame that finds the reply slot and the queue empty, the slot occupied or requests waiting, and the queue full. That
SERVICE_FRAME, a frame that comes whole, leaves the receiver in HUNT with the gap timer stopped is the model's reading (log entry 30). -/
def Obligations.RequestPlacement : Prop :=
  ∀ (s : State) (kind tag : Byte) (body : List Byte), body.length ≤ 200 →
    let command := Instr.serviceFrame kind tag body (crc16 (BitVec.ofNat 8 body.length :: kind :: tag :: body))
    let v := { s.svp with rx := .hunt, gapRunning := false }
    (s.free → exec command s = .next (serve ⟨kind, tag, body⟩ (s.drawOrder.withSvp v))) ∧
    (s.svp.reply.isSome = true ∨ s.svp.queue ≠ [] → s.svp.queue.length < 2 →
      exec command s = .next (s.drawOrder.withSvp { v with queue := s.svp.queue ++ [⟨kind, tag, body⟩] })) ∧
    (s.svp.reply.isSome = true → s.svp.queue.length = 2 → s.svp.busy = none →
      exec command s = .next (s.drawOrder.withSvp
        { v with busy := some ⟨0x7F, tag, [kind, 5, 0], s.svp.formed⟩, formed := s.svp.formed + 1 }.arbitrate)) ∧
    (s.svp.reply.isSome = true → s.svp.queue.length = 2 → s.svp.busy.isSome = true →
      exec command s = .next (s.drawOrder.withSvp { v with dropped := min 65535 (s.svp.dropped + 1) }))

/-- R189, R185, R197: the last byte of a frame leaves the line: of a notice, of a BUSY refusal, of a reply with and without a request waiting,
and of the acceptance of RESTART, which lets the rest of a station burst pass (R147; log entry 40) and inside CHEAP makes a plan and hands over
the night demand that it raises (R82, R87, R127). That this plan looks at the sample record last formed before the restart is the model's choice (log
entry 42), and so is that the event changes nothing but the order drawn while no frame is on the line (log entry 46). -/
def Obligations.FrameSent : Prop :=
  (∀ s : State, s.svp.tx = none → exec .frameSent s = .next s.drawOrder) ∧
  (∀ (s : State) (f : TxFrame), s.svp.tx = some f → f.source = .notice →
    exec .frameSent s = .next (s.drawOrder.withSvp { s.svp with tx := none }.arbitrate)) ∧
  (∀ (s : State) (f : TxFrame), s.svp.tx = some f → f.source = .busy →
    exec .frameSent s = .next (s.drawOrder.withSvp { s.svp with busy := none, tx := none }.arbitrate)) ∧
  (∀ (s : State) (f : TxFrame), s.svp.tx = some f → f.source = .reply → f.kind ≠ 0xA7 → s.svp.queue = [] →
    exec .frameSent s = .next (s.drawOrder.withSvp { s.svp with reply := none, tx := none }.arbitrate)) ∧
  (∀ (s : State) (f : TxFrame) (r : Request) (rest : List Request), s.svp.tx = some f → f.source = .reply → f.kind ≠ 0xA7 →
    s.svp.queue = r :: rest →
    ∃ t, exec .frameSent s = .next t ∧ t.svp.queue = rest ∧
      (∃ p, t.svp.reply = some p ∧ p.tag = r.tag ∧ (p.kind = r.kind ||| 0x80 ∨ p.kind = 0x7F)) ∧ t.svp.tx.isSome = true ∧
      t.svp.formed = s.svp.formed + 1) ∧
  (∀ (s : State) (f : TxFrame), s.svp.tx = some f → f.source = .reply → f.kind = 0xA7 →
    ∃ t, exec .frameSent s = .next t ∧
      (∀ i, s.sst.image = some i → t.cfg = i.copy) ∧ t.sst.image = s.sst.image ∧ t.sst.keepHeat = true ∧
      t.sst.part = (if t.cfg.strap = [] then .unconfigured else .running) ∧
      t.tck.time = s.tck.time ∧ t.tck.uptime = 0 ∧ t.tck.band = t.evalBand ∧
      t.fpl.ring = s.fpl.ring ∧ t.fpl.openDay = s.fpl.openDay ∧ t.fpl.learned = s.fpl.learned ∧
      (t.tck.band ≠ .cheap → t.fpl.plan = none ∧ (t.fsq.rows.row .night).active = false) ∧
      (t.tck.band = .cheap → let p : Plan := t.newPlan s.lmu.sample .start;
        t.fpl.plan = some p ∧ p.noSight = s.lmu.sample.active.isNone ∧
        ((t.fsq.rows.row .night).active = true ↔ p.startState = .raised) ∧
        (∀ f, p.figures = some f → p.startState = .raised →
          (t.fsq.rows.row .night).target = min f.vTarget f.vCeil ∧ (t.fsq.rows.row .night).planned = some f.planned)) ∧
      t.ifm.dayPulses = s.ifm.dayPulses ∧ t.lmu.sample.active = none ∧ t.lmu.a.held = none ∧ t.lmu.b.held = none ∧
      t.svp.queue = [] ∧ t.svp.reply = none ∧ t.svp.busy = none ∧ t.svp.mask = BitVec.allOnes 22 ∧
      t.sli.rx = (if s.sli.rx = .quiet then .quiet else .late) ∧
      (s.fsq.fill = none → t.fsq.journal = s.fsq.journal) ∧
      (s.ofg.state.latched = true → s.ivd.pattern ≠ .both →
        t.ofg.state = s.ofg.state ∧ t.ofg.tripCause = s.ofg.tripCause ∧ t.ofg.tripRef = s.ofg.tripRef ∧
        t.ofg.escalation = s.ofg.escalation ∧ t.ofg.tripUptime = s.ofg.tripUptime ∧ t.ofg.granted = false ∧
        t.ivd.forceClose = true ∧ (s.ofg.state = .isolate → t.sli.outgoing = .hold)) ∧
      (s.ofg.state.latched = false → t.ofg.state = .blind ∧ t.ivd.forceClose = false))

/-! ### Requests that read -/

/-- R6, R24, R20, R54, R69, R71, R76, R92, R101, R102, R128, R146, R149, R164, R190: a GET request that is served changes nothing but the
reply, which carries the body of its owner; and the STATUS_GET body of section 10.7, its length and its fields at their offsets. The order
of fields in bodies that section 10.7 does not lay out, the codes of two-way choices, and the age of a reading that is not there yet, are the
model's (log entries 10, 11 and 32). -/
def Obligations.GetRequests : Prop :=
  (∀ (s : State) (tag : Byte), s.free →
    exec (.statusGet tag) s = .next (s.answered 0x81 tag s.statusBody) ∧
    exec (.levelGet tag) s = .next (s.answered 0x82 tag (fieldBytes s.levelFields)) ∧
    exec (.sensorGet tag) s = .next (s.answered 0x84 tag (fieldBytes (sensorFields s.cfg.lmu))) ∧
    exec (.strapGet tag) s = .next (s.answered 0x86 tag (fieldBytes (strapFields s.cfg.strap))) ∧
    exec (.valveGet tag) s = .next (s.answered 0x8C tag (fieldBytes s.valveFields)) ∧
    exec (.lineGet tag) s = .next (s.answered 0x8F tag (fieldBytes s.lineFields)) ∧
    exec (.clockGet tag) s = .next (s.answered 0x92 tag (fieldBytes s.clockFields)) ∧
    exec (.tariffGet tag) s = .next (s.answered 0x94 tag (fieldBytes (tariffFields s.cfg.calendar))) ∧
    exec (.planGet tag) s =
      .next (s.answered 0x96 tag (fieldBytes (planSettingFields s.cfg.plan ++ [optNum s.fpl.learned]))) ∧
    exec (.planShow tag) s = .next (s.answered 0x97 tag (fieldBytes s.planFields)) ∧
    exec (.heatGet tag) s = .next (s.answered 0x9D tag (fieldBytes s.heatFields))) ∧
  (∀ s : State,
    let b := s.statusBody
    let half := fun w : BitVec 16 => [w.extractLsb' 8 8, w.extractLsb' 0 8]
    b.length = 55 ∧ b.take 4 = wordBytes s.tck.uptime ∧ b[4]? = some (BitVec.ofNat 8 s.sst.part.code) ∧
    (∀ f, b[5]? = some f →
      f.getLsbD 0 = s.sst.writing.isSome ∧ f.getLsbD 1 = s.tck.time.isSome ∧ f.getLsbD 2 = s.ifm.stall ∧
      f.getLsbD 3 = s.ivd.forceClose ∧ f.getLsbD 4 = !s.ivd.faults.isEmpty ∧ f.getLsbD 5 = s.fsq.hold ∧
      f.getLsbD 6 = s.ofg.blindFlag ∧ f.getLsbD 7 = s.lmu.sample.disagree) ∧
    b[6]? = some (BitVec.ofNat 8 s.ofg.state.code) ∧ b[7]? = some (BitVec.ofNat 8 (tripCauseCode s.ofg.tripCause)) ∧
    b[8]? = some (BitVec.ofNat 8 (sourceCode s.lmu.sample.active)) ∧
    (b.drop 9).take 2 = half (levelHalf s.lmu.sample.activeLevel) ∧
    (b.drop 11).take 2 = half (levelHalf s.lmu.sample.guardLevel) ∧
    (b.drop 13).take 4 = wordBytes (volumeField s.lmu.sample.planningVolume) ∧
    b[17]? = some (BitVec.ofNat 8 s.ivd.state.code) ∧ b[18]? = some (BitVec.ofNat 8 s.tck.band.code) ∧
    b[19]? = some (BitVec.ofNat 8 s.fsq.seq.code) ∧
    b[20]? = some (BitVec.ofNat 8 (match s.working with
      | some (k, _) => k.code
      | none => 0)) ∧
    (b.drop 22).take 4 = wordBytes (volumeField (s.working.map Prod.snd)) ∧
    b[21]? = some (BitVec.ofNat 8 s.fsq.rows.activeCount) ∧ (b.drop 26).take 4 = wordBytes (volumeField s.fpl.allowance) ∧
    b[30]? = some (BitVec.ofNat 8 s.sli.state.code) ∧ b[31]? = some (BitVec.ofNat 8 (acceptedCode s.sli.accepted)) ∧
    b[32]? = some (BitVec.ofNat 8 s.sli.outgoing.code) ∧
    (b.drop 33).take 2 = half (signedHalf s.fhc.temps.ambient.reading) ∧
    b[35]? = some (BitVec.ofNat 8 s.fhc.season.code) ∧ b[36]? = some (if s.fhc.pathProven then 1 else 0) ∧
    b[37]? = some (BitVec.ofNat 8 s.fhc.zones.riser.state.code) ∧ b[38]? = some (BitVec.ofNat 8 s.fhc.zones.overflow.state.code) ∧
    b[39]? = some (BitVec.ofNat 8 s.fhc.zones.pit.state.code) ∧ b[40]? = some (BitVec.ofNat 8 s.fhc.zones.sensor.state.code) ∧
    (b.drop 41).take 2 = half (BitVec.ofNat 16 s.powerUsed) ∧ b[43]? = some (BitVec.ofNat 8 s.trc.queue.length) ∧
    b[44]? = some (BitVec.ofNat 8 s.cfg.history.mode.code) ∧ b[45]? = some (BitVec.ofNat 8 s.trc.trigger.code) ∧
    (b.drop 46).take 2 = half (BitVec.ofNat 16 s.svp.gapErrors) ∧ (b.drop 48).take 2 = half (BitVec.ofNat 16 s.svp.checkErrors) ∧
    (b.drop 50).take 2 = half (BitVec.ofNat 16 s.svp.lengthErrors) ∧ (b.drop 52).take 2 = half (BitVec.ofNat 16 s.svp.dropped) ∧
    b[54]? = some (BitVec.ofNat 8 s.svp.lost))

/-- R192: the requests that read in parts, each with its number of parts, and the refusal of a part or a zone that is not there. The layouts
are the model's (log entry 11), and so is the choice to name the zone where zone and part number are both out of range (log entry 44). -/
def Obligations.GetRequestsInParts : Prop :=
  (∀ (s : State) (tag : Byte), s.free →
    exec (.guardGet tag (numField 0)) s = .next (s.answered 0x88 tag (fieldBytes (0 :: 2 :: guardFields s.cfg.ofg))) ∧
    exec (.guardGet tag (numField 1)) s = .next (s.answered 0x88 tag (fieldBytes (1 :: 2 :: s.guardRecord))) ∧
    exec (.daysGet tag (numField 0)) s = .next (s.answered 0x98 tag (fieldBytes
      (0 :: numField (1 + s.fpl.ring.length) :: (s.fpl.openDay.fields s.dayLitres ++
        [numField (forecast s.cfg.plan s.fpl.ring).n, numField (forecast s.cfg.plan s.fpl.ring).d,
         numField (forecast s.cfg.plan s.fpl.ring).f])))) ∧
    (∀ n x, n < 200 → s.fpl.ring[n]? = some x → exec (.daysGet tag (numField (n + 1))) s = .next (s.answered 0x98 tag (fieldBytes
      (numField (n + 1) :: numField (1 + s.fpl.ring.length) :: x.fields)))) ∧
    exec (.fillsGet tag (numField 0)) s = .next (s.answered 0x99 tag (fieldBytes
      (0 :: numField (2 + s.fsq.journal.length) :: Kind.all.flatMap fun k => (s.fsq.rows.row k).fields k))) ∧
    (∀ f, s.fsq.fill = some f → exec (.fillsGet tag (numField 1)) s = .next (s.answered 0x99 tag (fieldBytes
      (1 :: numField (2 + s.fsq.journal.length) :: 1 :: FillRecord.fields { f with tally := s.ifm.fillTally.getD 0 })))) ∧
    (s.fsq.fill = none → exec (.fillsGet tag (numField 1)) s = .next (s.answered 0x99 tag (fieldBytes
      [1, numField (2 + s.fsq.journal.length), 0]))) ∧
    (∀ n x, n < 200 → s.fsq.journal[n]? = some x → exec (.fillsGet tag (numField (n + 2))) s = .next (s.answered 0x99 tag (fieldBytes
      (numField (n + 2) :: numField (2 + s.fsq.journal.length) :: x.fields)))) ∧
    (∀ z, exec (.zoneGet tag (numField (zoneNumber z)) (numField 0)) s =
      .next (s.answered 0x9F tag (fieldBytes (0 :: 1 :: s.zoneFields z)))) ∧
    (∀ z, exec (.zoneGet tag (numField 0) (numField (zoneNumber z - 1))) s =
      .next (s.answered 0x9F tag (fieldBytes (numField (zoneNumber z - 1) :: 4 :: s.zoneFields z))))) ∧
  (∀ (s : State) (tag : Byte) (part zone : Word), s.free →
    (part.toInt < 0 ∨ 2 ≤ part.toInt → exec (.guardGet tag part) s = .next (s.refused tag 0x08 3 [0])) ∧
    (part.toInt < 0 ∨ (1 + s.fpl.ring.length : Nat) ≤ part.toInt → exec (.daysGet tag part) s = .next (s.refused tag 0x18 3 [0])) ∧
    (part.toInt < 0 ∨ (2 + s.fsq.journal.length : Nat) ≤ part.toInt →
      exec (.fillsGet tag part) s = .next (s.refused tag 0x19 3 [0])) ∧
    (inRange 0 4 zone.toInt = false → exec (.zoneGet tag zone part) s = .next (s.refused tag 0x1F 3 [0])) ∧
    (inRange 1 4 zone.toInt = true → part.toInt < 0 ∨ 1 ≤ part.toInt →
      exec (.zoneGet tag zone part) s = .next (s.refused tag 0x1F 3 [1])) ∧
    (part.toInt < 0 ∨ 4 ≤ part.toInt → exec (.zoneGet tag (numField 0) part) s = .next (s.refused tag 0x1F 3 [1])))

/-! ### Requests that set -/

/-- R69, R102, R101, R24: VALVE_SET, PLAN_SET and SENSOR_SET with every field in its range: the whole group is replaced, and nothing changes
but what the change of a field calls for. The codes of two-way choices are the model's (log entry 10). -/
def Obligations.SetValvePlanSensor : Prop :=
  (∀ (s : State) (tag : Byte) (c : ValveSettings), s.free → s.commitIdle → 10 ≤ c.valveTravelS → c.valveTravelS ≤ 600 →
    1 ≤ c.reproveS → c.reproveS ≤ 30 → 1 ≤ c.litresPerPulse → c.litresPerPulse ≤ 1000 → 10 ≤ c.meterStallS → c.meterStallS ≤ 600 →
    exec (.valveSet tag (valveSettingFields c)) s =
      .next ((s.withSst { s.sst with working := { s.sst.working with valve := c } }).answered 0x8B tag [])) ∧
  (∀ (s : State) (tag : Byte) (c : PlanSettings), s.free → s.commitIdle → c.floorMm ≤ 20000 → c.defaultDrawL ≤ 16000000 →
    c.marginPct ≤ 50 → 10 ≤ c.qCapLpm → c.qCapLpm ≤ 20000 → c.lateSlackMin ≤ 240 →
    exec (.planSet tag (planSettingFields c ++ [1])) s =
      .next ((s.withSst { s.sst with working := { s.sst.working with plan := c } }).answered 0x95 tag []) ∧
    ∃ t, exec (.planSet tag (planSettingFields c ++ [0])) s = .next t ∧ t.replied 0x95 tag [] ∧
      t.cfg = { s.cfg with plan := c } ∧ t.fpl = { s.fpl with learned := none } ∧ t.fsq = s.fsq ∧ t.ofg = s.ofg) ∧
  (∀ (s : State) (tag : Byte) (c : LmuSettings), s.free → s.commitIdle →
    c.samplePeriodS = 1 ∨ c.samplePeriodS = 2 ∨ c.samplePeriodS = 5 ∨ c.samplePeriodS = 10 → 3 ≤ c.staleS → c.staleS ≤ 600 →
    c.warmSamples ≤ 30 → c.aZero < c.aFull → c.aFull ≤ 4095 → 1 ≤ c.aSpanMm → c.aSpanMm ≤ 20000 → c.aOffsetMm ≤ 20000 →
    300 ≤ c.bMountMm → c.bMountMm ≤ 20000 → 8 ≤ c.flatWindow → c.flatWindow ≤ 64 → c.flatBandMm ≤ 20 → 1 ≤ c.flatFlowL →
    c.flatFlowL ≤ 1000000 → 1 ≤ c.revertSamples → c.revertSamples ≤ 600 → 10 ≤ c.agreeMm → c.agreeMm ≤ 2000 →
    1 ≤ c.agreeSamples → c.agreeSamples ≤ 60 → c.smoothK ≤ 6 → 2 ≤ c.rateSpan → c.rateSpan ≤ 16 →
    exec (.sensorSet tag (sensorFields c)) s =
      .next (((s.withSst { s.sst with working := { s.sst.working with lmu := c } }).withLmu { s.lmu with
        sampleTimer := if c.samplePeriodS = s.cfg.lmu.samplePeriodS then s.lmu.sampleTimer else some ⟨s.now, c.samplePeriodS⟩
        rateRing := if c.samplePeriodS = s.cfg.lmu.samplePeriodS ∧ c.rateSpan = s.cfg.lmu.rateSpan then s.lmu.rateRing else []
        a := { s.lmu.a with ring := if c.flatWindow = s.cfg.lmu.flatWindow then s.lmu.a.ring else [] }
        b := { s.lmu.b with ring := if c.flatWindow = s.cfg.lmu.flatWindow then s.lmu.b.ring else [] }
        pulseRing := if c.flatWindow = s.cfg.lmu.flatWindow then s.lmu.pulseRing else [] }).answered 0x83 tag []))

/-- R146, R165, R180: LINE_SET, ZONE_SET and HISTORY_SET with every field in its range. The codes of two-way choices are the model's (log
entry 10). -/
def Obligations.SetLineZoneHistory : Prop :=
  (∀ (s : State) (tag : Byte) (c : LineSettings) (u : SupplySettings), s.free → s.commitIdle → c.lineAddress ≤ 63 →
    1 ≤ c.linePeriodS → c.linePeriodS ≤ 5 → 1 ≤ c.persistN → c.persistN ≤ 8 → 10 ≤ u.callWaitS → u.callWaitS ≤ 600 →
    10 ≤ u.releaseWaitS → u.releaseWaitS ≤ 600 → 60 ≤ u.retryS → u.retryS ≤ 3600 → u.emergencyMm ≤ 20000 →
    u.standardRefillL ≤ 1000000 → u.peakRefillL ≤ 1000000 →
    ∃ t, exec (.lineSet tag (lineSettingFields c u)) s = .next t ∧ t.replied 0x8E tag [] ∧
      t.cfg = { s.cfg with line := c, supply := u } ∧
      t.sli = { s.sli with
        candidate := if c.lineAddress = s.cfg.line.lineAddress then s.sli.candidate else none
        persist := if c.lineAddress = s.cfg.line.lineAddress then s.sli.persist else 0
        periodTimer := if c.linePeriodS = s.cfg.line.linePeriodS then s.sli.periodTimer else some ⟨s.now, c.linePeriodS⟩
        silenceTimer := if c.linePeriodS = s.cfg.line.linePeriodS then s.sli.silenceTimer else some ⟨s.now, 3 * c.linePeriodS⟩ } ∧
      (c.supplyMode = s.cfg.line.supplyMode → t.ifm = s.ifm) ∧ t.fsq = s.fsq ∧ t.fpl = s.fpl ∧ t.ofg = s.ofg ∧ t.ivd = s.ivd) ∧
  (∀ (s : State) (tag : Byte) (z : Zone) (c : ZoneSettings), s.free → s.commitIdle → -300 ≤ c.onT → c.onT < c.offT → c.offT ≤ 300 →
    c.powerW ≤ 6000 → c.priority ≤ 7 →
    ∃ t, exec (.zoneSet tag [numField (zoneNumber z), intField c.onT, intField c.offT, numField c.powerW, numField c.priority,
        twoWay c.enabled]) s = .next t ∧ t.replied 0x9E tag [] ∧
      t.cfg = { s.cfg with zones := s.cfg.zones.put z c } ∧
      ((s.fhc.zones.get z).state = .fault → (t.fhc.zones.get z).state = .fault) ∧
      ((s.fhc.zones.get z).state ≠ .fault → c.enabled = false → (t.fhc.zones.get z).state = .disabled) ∧
      ((s.fhc.zones.get z).state ≠ .fault → c.enabled = true → s.fhc.startHold = false → (t.fhc.zones.get z).state ≠ .disabled) ∧
      (s.fhc.startHold = false → t.powerUsed ≤ t.budget ∧ t.fhc.lastBudget = some t.budget ∧
        ∀ v, s.zoneReading z = some v →
          (v ≤ c.onT → (t.fhc.zones.get z).need = true) ∧ (c.offT ≤ v → (t.fhc.zones.get z).need = false) ∧
          (c.onT < v → v < c.offT → (t.fhc.zones.get z).need = (s.fhc.zones.get z).need)) ∧
      t.fhc.temps = s.fhc.temps ∧ t.fhc.season = s.fhc.season ∧ t.ofg = s.ofg ∧ t.fsq = s.fsq ∧ t.ivd = s.ivd) ∧
  (∀ (s : State) (tag : Byte) (c : HistorySettings), s.free → s.commitIdle → 1 ≤ c.every → c.every ≤ 60 → 1 ≤ c.pre → c.pre ≤ 127 →
    1 ≤ c.watermark → c.watermark ≤ 128 → 1 ≤ c.collectMin → c.collectMin ≤ 1440 →
    ∃ t, exec (.historySet tag [numField c.mode.code, numField c.every, numField c.pre, numField c.triggers.toNat,
        numField c.watermark, numField c.collectMin]) s = .next t ∧ t.replied 0xA0 tag [] ∧
      t.cfg = { s.cfg with history := c } ∧
      (c.mode ≠ s.cfg.history.mode →
        t.trc.queue = [] ∧ t.trc.overrun = 0 ∧ t.trc.trigger = .armed ∧ t.trc.watermarkMark = false ∧ t.trc.collectTimer = none) ∧
      (c.mode = s.cfg.history.mode →
        t.trc.queue = s.trc.queue ∧ t.trc.overrun = s.trc.overrun ∧ t.trc.trigger = s.trc.trigger ∧
        t.trc.collectTimer = s.trc.collectTimer ∧
        (c.watermark = s.cfg.history.watermark → t.trc.watermarkMark = s.trc.watermarkMark) ∧
        (c.watermark ≠ s.cfg.history.watermark → t.trc.watermarkMark = decide (c.watermark ≤ s.trc.queue.length))) ∧
      t.trc.nextSequence = s.trc.nextSequence ∧ t.trc.sampleCount = s.trc.sampleCount ∧ t.trc.guardPeak = s.trc.guardPeak ∧
      t.ofg = s.ofg ∧ t.fsq = s.fsq)

/-- R20, R28, R29, R51, R163, R164: STRAP_SET, GUARD_SET and HEAT_SET with every field in its range and their checks met, with what their
change hands over. The codes of two-way choices are the model's (log entry 10). -/
def Obligations.SetStrapGuardHeat : Prop :=
  (∀ (s : State) (tag : Byte) (pts : List StrapPoint), s.free → s.commitIdle → 2 ≤ pts.length → pts.length ≤ 16 →
    (∀ p, p ∈ pts → p.level ≤ 20000 ∧ p.volume ≤ 16000000) →
    (∀ (i : Nat) (p q : StrapPoint), pts[i]? = some p → pts[i + 1]? = some q → p.level < q.level ∧ p.volume ≤ q.volume) →
    ∃ t, exec (.strapSet tag (strapFields pts)) s = .next t ∧ t.replied 0x85 tag [] ∧ t.cfg = { s.cfg with strap := pts } ∧
      t.ofg.ceilingMm = ceilingOf s.cfg.ofg s.fhc.pathProven ∧ t.ofg.ceilingVolume = volumeAt pts t.ofg.ceilingMm ∧
      t.lmu = s.lmu ∧ t.tck = s.tck ∧ t.ofg.state = s.ofg.state) ∧
  (∀ (s : State) (tag : Byte) (c : GuardSettings), s.free → s.commitIdle → 100 ≤ c.warnMm → 1 ≤ c.warnN → c.warnN ≤ 60 →
    c.warnHystMm ≤ 2000 → c.warnExitN ≤ 60 → c.tripMm ≤ 20000 → 1 ≤ c.tripN → c.tripN ≤ 30 → 1 ≤ c.spillN → c.spillN ≤ 30 →
    10 ≤ c.riseAfterTripMm → c.riseAfterTripMm ≤ 1000 → 1 ≤ c.passRate → c.passRate ≤ 500 → 1 ≤ c.passN →
    c.passN ≤ 60 → c.ceilingMarginMm ≤ 5000 → c.frostDerateMm ≤ 5000 → c.blindMarginL ≤ 1000000 →
    c.warnMm < c.tripMm → c.rearmMm < c.warnMm → c.warnHystMm < c.warnMm → c.ceilingMarginMm + c.frostDerateMm < c.warnMm →
    ∃ t, exec (.guardSet tag (guardFields c)) s = .next t ∧ t.replied 0x87 tag [] ∧ t.cfg = { s.cfg with ofg := c } ∧
      t.ofg.ceilingMm = c.warnMm - c.ceilingMarginMm - (if s.fhc.pathProven then 0 else c.frostDerateMm) ∧
      t.ofg.ceilingVolume = volumeAt s.cfg.strap t.ofg.ceilingMm ∧ t.ofg.test = none ∧ t.ofg.state = s.ofg.state ∧
      t.ofg.granted = (withdrawal c.blindFill t.ofg).isNone ∧ t.ofg.budget = s.ofg.budget ∧ t.lmu = s.lmu ∧ t.tck = s.tck) ∧
  (∀ (s : State) (tag : Byte) (c : HeatSettings) (f : FrostFillSettings), s.free → s.commitIdle → -300 ≤ c.frostOnT →
    c.frostOnT ≤ 100 → c.frostOnT < c.frostOffT → -200 ≤ c.frostOffT → c.frostOffT ≤ 200 → 1 ≤ c.frostPersistMin →
    c.frostPersistMin ≤ 720 → -100 ≤ c.ovfReadyT → c.ovfReadyT ≤ 200 → c.budgetCheapW ≤ 20000 → c.budgetStandardW ≤ 20000 →
    c.budgetPeakW ≤ 20000 → c.minOnS ≤ 1800 → 1 ≤ c.confirmMin → c.confirmMin ≤ 120 → 1 ≤ c.confirmRise → c.confirmRise ≤ 50 →
    f.prepareMaxMin ≤ 240 → 1 ≤ f.turnoverH → f.turnoverH ≤ 72 → 1 ≤ f.turnoverL → f.turnoverL ≤ 1000000 →
    ∃ t, exec (.heatSet tag (heatSettingFields c f)) s = .next t ∧ t.replied 0x9C tag [] ∧
      t.cfg = { s.cfg with heat := c, frostFill := f } ∧
      (s.fhc.season = .out → t.fhc.pathProven = true) ∧
      (s.fhc.season ≠ .out → ∀ v, s.fhc.temps.overflow.reading = some v → t.fhc.pathProven = decide (c.ovfReadyT ≤ v)) ∧
      (s.fhc.season ≠ .out → s.fhc.temps.overflow.reading = none → t.fhc.pathProven = false) ∧
      (s.fhc.startHold = false → t.fhc.lastBudget = some t.budget ∧ t.powerUsed ≤ t.budget) ∧
      t.fhc.temps = s.fhc.temps ∧ t.fhc.season = s.fhc.season ∧ t.lmu = s.lmu ∧ t.tck = s.tck)

/-- R185, R186, R195: a SET request is refused whole: BAD_LENGTH, BUSY while a commit is in flight, BAD_VALUE with the index of the first field
out of its range (of every SET request and of CLOCK_SET; R20, R24, R75, R77), INCONSISTENT (of the six SET requests that have a check beyond
the ranges: R20, R24, R51, R75, R163, R165); nothing changes but the reply and, of the model's own fields, the draw of an order. The pair of
windows that TARIFF_SET names is the model's choice where several pairs overlap (log entry 35), and so are the codes of the two-way choices and of
the primary sensor, A 1 and B 2, that the ranges follow (log entry 10). That the first of several fields out of range is named is R20's and R75's
rule for STRAP_SET and TARIFF_SET, and the model's choice for every other request (log entry 44). -/
def Obligations.SetRefusals : Prop :=
  let groups : List ((Byte → List Word → Instr) × Byte × List (Int × Int)) :=
    [(.guardSet, 0x07, [(100, 20000), (1, 60), (0, 2000), (0, 60), (100, 20000), (1, 30), (1, 30), (0, 1), (10, 1000), (0, 20000),
        (1, 500), (1, 60), (0, 5000), (0, 5000), (0, 1), (0, 1000000)]),
     (.valveSet, 0x0B, [(10, 600), (1, 30), (1, 1000), (10, 600)]),
     (.lineSet, 0x0E, [(0, 63), (1, 5), (1, 8), (0, 1), (10, 600), (10, 600), (60, 3600), (0, 20000), (0, 1000000), (0, 1000000)]),
     (.planSet, 0x15, [(0, 20000), (0, 16000000), (0, 50), (10, 20000), (0, 1), (0, 240), (0, 1)]),
     (.heatSet, 0x1C, [(-300, 100), (-200, 200), (1, 720), (-100, 200), (0, 20000), (0, 20000), (0, 20000), (0, 1800), (1, 120),
        (1, 50), (0, 240), (1, 72), (1, 1000000)]),
     (.zoneSet, 0x1E, [(1, 4), (-300, 300), (-300, 300), (0, 6000), (0, 7), (0, 1)]),
     (.historySet, 0x20, [(0, 4), (1, 60), (1, 127), (0, 31), (1, 128), (1, 1440)])]
  (∀ g, g ∈ groups → ∀ (s : State) (tag : Byte) (fs : List Word), s.free → fs.length ≤ 50 →
    (fs.length ≠ g.2.2.length → ∃ t, exec (g.1 tag fs) s = .next t ∧ t.drawnAs s = s.refused tag g.2.1 2 []) ∧
    (fs.length = g.2.2.length → s.sst.writing.isSome = true →
      ∃ t, exec (g.1 tag fs) s = .next t ∧ t.drawnAs s = s.refused tag g.2.1 5 [1]) ∧
    (∀ (i : Nat) (r : Int × Int), fs.length = g.2.2.length → s.commitIdle → g.2.2[i]? = some r →
      inRange r.1 r.2 (intAt fs i) = false →
      (∀ (j : Nat) (q : Int × Int), j < i → g.2.2[j]? = some q → inRange q.1 q.2 (intAt fs j) = true) →
      ∃ t, exec (g.1 tag fs) s = .next t ∧ t.drawnAs s = s.refused tag g.2.1 3 [BitVec.ofNat 8 i])) ∧
  (∀ (s : State) (tag : Byte), s.free →
    (∀ fs : List Word, fs.length ≤ 50 → fs.length ≠ 18 → exec (.sensorSet tag fs) s = .next (s.refused tag 0x03 2 [])) ∧
    exec (.strapSet tag []) s = .next (s.drawOrder.refused tag 0x05 2 []) ∧
    exec (.tariffSet tag []) s = .next (s.drawOrder.refused tag 0x13 2 [])) ∧
  (∀ (s : State) (tag : Byte), s.free → s.sst.writing.isSome = true →
    exec (.commit tag) s = .next (s.refused tag 0x24 5 [1]) ∧ exec (.restart tag) s = .next (s.refused tag 0x27 5 [1]) ∧
    (∀ fs : List Word, fs.length = 18 → exec (.sensorSet tag fs) s = .next (s.refused tag 0x03 5 [1])) ∧
    (∀ fs : List Word, fs ≠ [] → exec (.strapSet tag fs) s = .next (s.drawOrder.refused tag 0x05 5 [1]) ∧
      exec (.tariffSet tag fs) s = .next (s.drawOrder.refused tag 0x13 5 [1]))) ∧
  (∀ (s : State) (tag : Byte) (z : Zone) (c : ZoneSettings), s.free → s.commitIdle → -300 ≤ c.offT → c.offT ≤ c.onT → c.onT ≤ 300 →
    c.powerW ≤ 6000 → c.priority ≤ 7 →
    exec (.zoneSet tag [numField (zoneNumber z), intField c.onT, intField c.offT, numField c.powerW, numField c.priority,
      twoWay c.enabled]) s = .next (s.refused tag 0x1E 4 [])) ∧
  (∀ (s : State) (tag : Byte) (fs : List Word), s.free → s.commitIdle → fs.length = 18 →
    let ranges : List (Int × Int) := [(1, 10), (3, 600), (0, 30), (0, 4095), (0, 4095), (1, 20000), (0, 20000), (300, 20000), (8, 64),
      (0, 20), (1, 1000000), (1, 2), (0, 1), (1, 600), (10, 2000), (1, 60), (0, 6), (2, 16)]
    let period := intAt fs 0 = 1 ∨ intAt fs 0 = 2 ∨ intAt fs 0 = 5 ∨ intAt fs 0 = 10
    (¬period → exec (.sensorSet tag fs) s = .next (s.refused tag 0x03 3 [0])) ∧
    (∀ (i : Nat) (r : Int × Int), period → ranges[i]? = some r → inRange r.1 r.2 (intAt fs i) = false →
      (∀ (j : Nat) (q : Int × Int), j < i → ranges[j]? = some q → inRange q.1 q.2 (intAt fs j) = true) →
      exec (.sensorSet tag fs) s = .next (s.refused tag 0x03 3 [BitVec.ofNat 8 i])) ∧
    (period → (∀ (j : Nat) (q : Int × Int), ranges[j]? = some q → inRange q.1 q.2 (intAt fs j) = true) → intAt fs 4 ≤ intAt fs 3 →
      exec (.sensorSet tag fs) s = .next (s.refused tag 0x03 4 []))) ∧
  (∀ (s : State) (tag : Byte) (fs : List Word), s.free → s.commitIdle → fs ≠ [] → fs.length ≤ 50 →
    let ok := fun i : Nat => inRange 0 (if i % 2 = 1 then 20000 else 16000000) (intAt fs i)
    (inRange 2 16 (intAt fs 0) = false ∨ (fs.length : Int) ≠ 1 + 2 * intAt fs 0 →
      exec (.strapSet tag fs) s = .next (s.drawOrder.refused tag 0x05 3 [0])) ∧
    (inRange 2 16 (intAt fs 0) = true → (fs.length : Int) = 1 + 2 * intAt fs 0 →
      (∀ i, 1 ≤ i → i < fs.length → ok i = false → (∀ j, 1 ≤ j → j < i → ok j = true) →
        exec (.strapSet tag fs) s = .next (s.drawOrder.refused tag 0x05 3 [BitVec.ofNat 8 i])) ∧
      ((∀ i, 1 ≤ i → i < fs.length → ok i = true) → ∀ i, i + 2 < fs.length →
        (i % 2 = 1 ∧ intAt fs (i + 2) ≤ intAt fs i ∨ i % 2 = 0 ∧ 2 ≤ i ∧ intAt fs (i + 2) < intAt fs i) →
        exec (.strapSet tag fs) s = .next (s.drawOrder.refused tag 0x05 4 [])))) ∧
  (∀ (s : State) (tag : Byte) (fs : List Word), s.free → s.commitIdle → fs ≠ [] → fs.length ≤ 50 →
    let ok := fun i : Nat =>
      if i % 4 = 1 then inRange 0 1439 (intAt fs i) else if i % 4 = 2 then inRange 1 1440 (intAt fs i)
      else if i % 4 = 3 then inRange 1 127 (intAt fs i) else inRange 1 2 (intAt fs i)
    (inRange 0 8 (intAt fs 0) = false ∨ (fs.length : Int) ≠ 1 + 4 * intAt fs 0 →
      exec (.tariffSet tag fs) s = .next (s.drawOrder.refused tag 0x13 3 [0])) ∧
    (∀ i, inRange 0 8 (intAt fs 0) = true → (fs.length : Int) = 1 + 4 * intAt fs 0 → 1 ≤ i → i < fs.length → ok i = false →
      (∀ j, 1 ≤ j → j < i → ok j = true) →
      exec (.tariffSet tag fs) s = .next (s.drawOrder.refused tag 0x13 3 [BitVec.ofNat 8 i]))) ∧
  (∀ (s : State) (tag : Byte) (ws : List Window) (i j : Nat) (v w : Window), s.free → s.commitIdle → ws.length ≤ 8 →
    (∀ x, x ∈ ws → x.start ≤ 1439 ∧ 1 ≤ x.length ∧ x.length ≤ 1440 ∧ x.days ≠ 0 ∧ x.band ≠ .standard) →
    i < j → ws[i]? = some v → ws[j]? = some w → (∃ m, m < 10080 ∧ v.covers m = true ∧ w.covers m = true) →
    (∀ (k l : Nat) (x y : Window) (m : Nat), k < l → (k < i ∨ k = i ∧ l < j) → ws[k]? = some x → ws[l]? = some y → m < 10080 →
      ¬(x.covers m = true ∧ y.covers m = true)) →
    exec (.tariffSet tag (tariffFields ws)) s =
      .next (s.drawOrder.refused tag 0x13 4 [BitVec.ofNat 8 i, BitVec.ofNat 8 j])) ∧
  (∀ (s : State) (tag : Byte) (fs : List Word), s.free → s.commitIdle → fs.length = 16 →
    (∀ (j : Nat) (q : Int × Int), guardRanges[j]? = some q → inRange q.1 q.2 (intAt fs j) = true) →
    intAt fs 4 ≤ intAt fs 0 ∨ intAt fs 0 ≤ intAt fs 9 ∨ intAt fs 0 ≤ intAt fs 2 ∨ intAt fs 0 ≤ intAt fs 12 + intAt fs 13 →
    ∃ t, exec (.guardSet tag fs) s = .next t ∧ t.drawnAs s = s.refused tag 0x07 4 []) ∧
  (∀ (s : State) (tag : Byte) (fs : List Word), s.free → s.commitIdle → fs.length = 13 →
    (∀ (j : Nat) (q : Int × Int), heatRanges[j]? = some q → inRange q.1 q.2 (intAt fs j) = true) → intAt fs 1 ≤ intAt fs 0 →
    ∃ t, exec (.heatSet tag fs) s = .next t ∧ t.drawnAs s = s.refused tag 0x1C 4 []) ∧
  (∀ (s : State) (tag : Byte) (d q : Word), s.free →
    (inRange 0 6 d.toInt = false → exec (.clockSet tag d q) s = .next (s.drawOrder.refused tag 0x11 3 [0])) ∧
    (inRange 0 6 d.toInt = true → inRange 0 86399 q.toInt = false →
      exec (.clockSet tag d q) s = .next (s.drawOrder.refused tag 0x11 3 [1])))

/-! ### Requests that act -/

/-- R143, R177, R179, R188, R194, R197: LINE_STATS, HISTORY_READ, HISTORY_FLUSH, NOTICE_MASK, COMMIT and RESTART. The layout of the
LINE_STATS body and the store that holds no image during a write are the model's (log entries 11 and 7). -/
def Obligations.RecordRequests : Prop :=
  (∀ (s : State) (tag : Byte), s.free →
    exec (.lineStats tag) s =
      .next ((s.withSli { s.sli with lastError := .noNew, logCount := 0, logFull := false }).answered 0x90 tag (fieldBytes
        [numField s.sli.lastError.number, numField s.sli.logCount, numField s.sli.state.code, numField s.sli.counter,
         numField s.sli.recovery, optNum (s.sli.candidate.map StationCode.code), numField s.sli.persist,
         numField (acceptedCode s.sli.accepted)]))) ∧
  (∀ (s : State) (tag : Byte), s.free →
    exec (.historyFlush tag) s =
      .next ((s.withTrc { s.trc with
        queue := [], overrun := 0, trigger := .armed, watermarkMark := false, collectTimer := none }).answered 0xA2 tag [])) ∧
  (∀ (s : State) (tag : Byte) (n form : Word), s.free → form = 0 ∨ form = 1 →
    let k := min (clamp 1 16 n.toInt).toNat (if form = 0 then 8 else 16)
    ∃ t body, exec (.historyRead tag n form) s = .next t ∧ t = (s.withTrc { s.trc with
        queue := s.trc.queue.drop k, overrun := 0,
        watermarkMark := s.trc.watermarkMark && decide (s.cfg.history.watermark ≤ (s.trc.queue.drop k).length),
        collectTimer := if s.trc.queue.drop k = [] then none else s.trc.collectTimer }).answered 0xA1 tag body ∧
      body.take 5 = [form.setWidth 8, BitVec.ofNat 8 (min k s.trc.queue.length), BitVec.ofNat 8 (s.trc.queue.length - k)] ++
        halfBytes (BitVec.ofNat 16 s.trc.overrun) ∧
      (form = 0 → body.drop 5 = (s.trc.queue.take k).flatMap Entry.fullBytes) ∧
      (form = 1 → ∀ e rest, s.trc.queue.take k = e :: rest → body.drop 5 = wordBytes e.uptime ++ briefBytes e.uptime (e :: rest))) ∧
  (∀ (s : State) (tag : Byte) (n form : Word), s.free → inRange 0 1 form.toInt = false →
    exec (.historyRead tag n form) s = .next (s.refused tag 0x21 3 [1])) ∧
  (∀ (s : State) (tag : Byte) (mask : Word), s.free →
    exec (.noticeMask tag mask) s =
      .next (if mask.toNat < 4194304 then (s.withSvp { s.svp with mask := mask.setWidth 22 }).answered 0xA3 tag (wordBytes mask)
        else s.refused tag 0x23 3 [0])) ∧
  (∀ (s : State) (tag : Byte), s.free → s.commitIdle →
    exec (.commit tag) s =
      .next ((s.withSst { s.sst with writing := some s.sst.working, image := none, imageValid := false }).answered 0xA4 tag [])) ∧
  (∀ (s : State) (tag : Byte), s.free → s.commitIdle →
    exec (.restart tag) s = .next (if s.sst.imageValid then s.answered 0xA7 tag [] else s.refused tag 0x27 6 []))

/-- R198, R199, R200, R50, R156: QUIESCE and RESUME by the part state. The code 0 for yes is the model's (log entry 10). -/
def Obligations.QuiesceAndResume : Prop :=
  (∀ (s : State) (tag : Byte) (k : Word), s.free → s.sst.part = .running → k = 0 ∨ k = 1 →
    ∃ t, exec (.quiesce tag k) s = .next t ∧ t.replied 0xA5 tag [] ∧ t.sst.keepHeat = decide (k = 0) ∧
      (t.sst.part = .quiescing ∨ t.sst.part = .quiet) ∧ t.ofg.test = none ∧ t.ofg.state = s.ofg.state ∧
      (s.fsq.seq = .idle → s.ivd.state = .closed ∨ (∃ c, s.ivd.state = .fault c) → t.sst.part = .quiet ∧ t.fsq.seq = .idle) ∧
      (k = 1 → s.fhc.startHold = false → ∀ z, (t.fhc.zones.get z).state ≠ .on) ∧
      t.cfg = s.cfg ∧ t.tck = s.tck ∧ t.lmu = s.lmu ∧ t.fsq.rows = s.fsq.rows) ∧
  (∀ (s : State) (tag : Byte) (k : Word), s.free → s.sst.part = .quiescing ∨ s.sst.part = .quiet → k = 0 ∨ k = 1 →
    ∃ t, exec (.quiesce tag k) s = .next t ∧ t.replied 0xA5 tag [] ∧
      t.sst = { s.sst with keepHeat := decide (k = 0) } ∧ t.fsq = s.fsq ∧ t.ofg = s.ofg ∧ t.ivd = s.ivd) ∧
  (∀ (s : State) (tag : Byte) (k : Word), s.free →
    (inRange 0 1 k.toInt = false → exec (.quiesce tag k) s = .next (s.drawOrder.refused tag 0x25 3 [0])) ∧
    (k = 0 ∨ k = 1 → s.sst.part = .unconfigured → exec (.quiesce tag k) s = .next (s.drawOrder.refused tag 0x25 6 []))) ∧
  (∀ (s : State) (tag : Byte), s.free → s.sst.part = .quiescing ∨ s.sst.part = .quiet →
    ∃ t, exec (.resume tag) s = .next t ∧ t.replied 0xA6 tag [] ∧
      t.sst = { s.sst with part := .running, keepHeat := true } ∧ t.fsq.rows = s.fsq.rows ∧
      t.ofg.state = s.ofg.state ∧ t.ofg.test = s.ofg.test ∧ (s.fsq.seq ≠ .idle → t.fsq.seq = s.fsq.seq ∧ t.fsq.fill = s.fsq.fill)) ∧
  (∀ (s : State) (tag : Byte), s.free →
    (s.sst.part = .running → exec (.resume tag) s = .next (s.drawOrder.answered 0xA6 tag [])) ∧
    (s.sst.part = .unconfigured → exec (.resume tag) s = .next (s.drawOrder.refused tag 0x26 6 [])))

/-- R194, R196, R176: the write completes, and the collect timer expires. The check over a copy is an uninterpreted function (log entry 7), the
code 1 of FAILED is the model's (log entry 10), and so is a WRITE_COMPLETE with the commit state IDLE, which changes nothing but the order
drawn (log entries 39 and 4). A stopped collect timer's expiry changes nothing (log entry 3). -/
def Obligations.WriteAndCollect : Prop :=
  (∀ (s : State) (copy : Settings), s.sst.writing = some copy →
    (∃ t, exec (.writeComplete .ok) s = .next t ∧ t.sst.writing = none ∧ t.sst.imageValid = true ∧
      t.sst.image = some ⟨copy, Config.imageCheck copy⟩ ∧ t.cfg = s.cfg ∧ t.sst.keepHeat = s.sst.keepHeat ∧
      t.sst.part = (if s.sst.part = .unconfigured ∧ copy.strap ≠ [] then .running else s.sst.part)) ∧
    exec (.writeComplete .failed) s =
      .next ((s.drawOrder.withSst { s.sst with writing := none }).raise .commitDone [1])) ∧
  (∀ (s : State) (r : WriteResult), s.sst.writing = none → exec (.writeComplete r) s = .next s.drawOrder) ∧
  (∀ s : State, (s.trc.collectTimer = none → exec .collectTimerExpiry s = .next s) ∧
    (∀ e rest, s.trc.collectTimer.isSome = true → s.trc.queue = e :: rest →
      exec .collectTimerExpiry s = .next ((s.withTrc { s.trc with collectTimer := none }).raise .historyStale
        [numField s.trc.queue.length, e.uptime, numField s.trc.overrun])))

/-! ### Invariants -/

/-- R156 to R158: the sum of the power of the zones ON never exceeds the budget in force, and none heats where none may. -/
def Obligations.HeatSafeKept : Prop := Kept HeatSafe

/-- R63, R85, R125, R128, R140 to R142, R171, R174, R183, R184, R187: the bounds of the line's counter and recovery run, of the saturating counts,
the queues, the day ring and the journal hold after every step. -/
def Obligations.BoundedKept : Prop := Kept Bounded

/-- R119, R116: a CALL is only wished with the valve OPEN in CALLING or FILLING. -/
def Obligations.CallSoundKept : Prop := Kept CallSound

/-- R46, R39, R42, R62: permission, force-close and HOLD follow the guard state after every step. -/
def Obligations.GuardSoundKept : Prop := Kept GuardSound

/-- R28, R29, R30, R103: the ceiling is that in force, and no demand aims above it, after every step. -/
def Obligations.CeilingSoundKept : Prop := Kept CeilingSound

/-- The invariants hold at reset. The inputs at rest and the empty store of State.reset are the model's choice (log entry 6). -/
def Obligations.InvariantsAtReset : Prop :=
  HeatSafe State.reset ∧ Bounded State.reset ∧ CallSound State.reset ∧ GuardSound State.reset ∧ CeilingSound State.reset

end
end

