-- ==== Sys2Proof/Laws/State.lean ====
section
/-! SUPPORT. Each setter and each field of State: what is read back, and what stays. -/
namespace Sys2Proof.Machine.State

variable (s : State)

@[simp] theorem withLmu_lmu (x) : (s.withLmu x).lmu = x := rfl
@[simp] theorem withLmu_ofg (x) : (s.withLmu x).ofg = s.ofg := rfl
@[simp] theorem withLmu_ivd (x) : (s.withLmu x).ivd = s.ivd := rfl
@[simp] theorem withLmu_ifm (x) : (s.withLmu x).ifm = s.ifm := rfl
@[simp] theorem withLmu_tck (x) : (s.withLmu x).tck = s.tck := rfl
@[simp] theorem withLmu_fpl (x) : (s.withLmu x).fpl = s.fpl := rfl
@[simp] theorem withLmu_fsq (x) : (s.withLmu x).fsq = s.fsq := rfl
@[simp] theorem withLmu_sli (x) : (s.withLmu x).sli = s.sli := rfl
@[simp] theorem withLmu_fhc (x) : (s.withLmu x).fhc = s.fhc := rfl
@[simp] theorem withLmu_trc (x) : (s.withLmu x).trc = s.trc := rfl
@[simp] theorem withLmu_svp (x) : (s.withLmu x).svp = s.svp := rfl
@[simp] theorem withLmu_sst (x) : (s.withLmu x).sst = s.sst := rfl
@[simp] theorem withLmu_pending (x) : (s.withLmu x).pending = s.pending := rfl
@[simp] theorem withLmu_order (x) : (s.withLmu x).order = s.order := rfl
@[simp] theorem withLmu_draws (x) : (s.withLmu x).draws = s.draws := rfl

@[simp] theorem withOfg_lmu (x) : (s.withOfg x).lmu = s.lmu := rfl
@[simp] theorem withOfg_ofg (x) : (s.withOfg x).ofg = x := rfl
@[simp] theorem withOfg_ivd (x) : (s.withOfg x).ivd = s.ivd := rfl
@[simp] theorem withOfg_ifm (x) : (s.withOfg x).ifm = s.ifm := rfl
@[simp] theorem withOfg_tck (x) : (s.withOfg x).tck = s.tck := rfl
@[simp] theorem withOfg_fpl (x) : (s.withOfg x).fpl = s.fpl := rfl
@[simp] theorem withOfg_fsq (x) : (s.withOfg x).fsq = s.fsq := rfl
@[simp] theorem withOfg_sli (x) : (s.withOfg x).sli = s.sli := rfl
@[simp] theorem withOfg_fhc (x) : (s.withOfg x).fhc = s.fhc := rfl
@[simp] theorem withOfg_trc (x) : (s.withOfg x).trc = s.trc := rfl
@[simp] theorem withOfg_svp (x) : (s.withOfg x).svp = s.svp := rfl
@[simp] theorem withOfg_sst (x) : (s.withOfg x).sst = s.sst := rfl
@[simp] theorem withOfg_pending (x) : (s.withOfg x).pending = s.pending := rfl
@[simp] theorem withOfg_order (x) : (s.withOfg x).order = s.order := rfl
@[simp] theorem withOfg_draws (x) : (s.withOfg x).draws = s.draws := rfl

@[simp] theorem withIvd_lmu (x) : (s.withIvd x).lmu = s.lmu := rfl
@[simp] theorem withIvd_ofg (x) : (s.withIvd x).ofg = s.ofg := rfl
@[simp] theorem withIvd_ivd (x) : (s.withIvd x).ivd = x := rfl
@[simp] theorem withIvd_ifm (x) : (s.withIvd x).ifm = s.ifm := rfl
@[simp] theorem withIvd_tck (x) : (s.withIvd x).tck = s.tck := rfl
@[simp] theorem withIvd_fpl (x) : (s.withIvd x).fpl = s.fpl := rfl
@[simp] theorem withIvd_fsq (x) : (s.withIvd x).fsq = s.fsq := rfl
@[simp] theorem withIvd_sli (x) : (s.withIvd x).sli = s.sli := rfl
@[simp] theorem withIvd_fhc (x) : (s.withIvd x).fhc = s.fhc := rfl
@[simp] theorem withIvd_trc (x) : (s.withIvd x).trc = s.trc := rfl
@[simp] theorem withIvd_svp (x) : (s.withIvd x).svp = s.svp := rfl
@[simp] theorem withIvd_sst (x) : (s.withIvd x).sst = s.sst := rfl
@[simp] theorem withIvd_pending (x) : (s.withIvd x).pending = s.pending := rfl
@[simp] theorem withIvd_order (x) : (s.withIvd x).order = s.order := rfl
@[simp] theorem withIvd_draws (x) : (s.withIvd x).draws = s.draws := rfl

@[simp] theorem withIfm_lmu (x) : (s.withIfm x).lmu = s.lmu := rfl
@[simp] theorem withIfm_ofg (x) : (s.withIfm x).ofg = s.ofg := rfl
@[simp] theorem withIfm_ivd (x) : (s.withIfm x).ivd = s.ivd := rfl
@[simp] theorem withIfm_ifm (x) : (s.withIfm x).ifm = x := rfl
@[simp] theorem withIfm_tck (x) : (s.withIfm x).tck = s.tck := rfl
@[simp] theorem withIfm_fpl (x) : (s.withIfm x).fpl = s.fpl := rfl
@[simp] theorem withIfm_fsq (x) : (s.withIfm x).fsq = s.fsq := rfl
@[simp] theorem withIfm_sli (x) : (s.withIfm x).sli = s.sli := rfl
@[simp] theorem withIfm_fhc (x) : (s.withIfm x).fhc = s.fhc := rfl
@[simp] theorem withIfm_trc (x) : (s.withIfm x).trc = s.trc := rfl
@[simp] theorem withIfm_svp (x) : (s.withIfm x).svp = s.svp := rfl
@[simp] theorem withIfm_sst (x) : (s.withIfm x).sst = s.sst := rfl
@[simp] theorem withIfm_pending (x) : (s.withIfm x).pending = s.pending := rfl
@[simp] theorem withIfm_order (x) : (s.withIfm x).order = s.order := rfl
@[simp] theorem withIfm_draws (x) : (s.withIfm x).draws = s.draws := rfl

@[simp] theorem withTck_lmu (x) : (s.withTck x).lmu = s.lmu := rfl
@[simp] theorem withTck_ofg (x) : (s.withTck x).ofg = s.ofg := rfl
@[simp] theorem withTck_ivd (x) : (s.withTck x).ivd = s.ivd := rfl
@[simp] theorem withTck_ifm (x) : (s.withTck x).ifm = s.ifm := rfl
@[simp] theorem withTck_tck (x) : (s.withTck x).tck = x := rfl
@[simp] theorem withTck_fpl (x) : (s.withTck x).fpl = s.fpl := rfl
@[simp] theorem withTck_fsq (x) : (s.withTck x).fsq = s.fsq := rfl
@[simp] theorem withTck_sli (x) : (s.withTck x).sli = s.sli := rfl
@[simp] theorem withTck_fhc (x) : (s.withTck x).fhc = s.fhc := rfl
@[simp] theorem withTck_trc (x) : (s.withTck x).trc = s.trc := rfl
@[simp] theorem withTck_svp (x) : (s.withTck x).svp = s.svp := rfl
@[simp] theorem withTck_sst (x) : (s.withTck x).sst = s.sst := rfl
@[simp] theorem withTck_pending (x) : (s.withTck x).pending = s.pending := rfl
@[simp] theorem withTck_order (x) : (s.withTck x).order = s.order := rfl
@[simp] theorem withTck_draws (x) : (s.withTck x).draws = s.draws := rfl

@[simp] theorem withFpl_lmu (x) : (s.withFpl x).lmu = s.lmu := rfl
@[simp] theorem withFpl_ofg (x) : (s.withFpl x).ofg = s.ofg := rfl
@[simp] theorem withFpl_ivd (x) : (s.withFpl x).ivd = s.ivd := rfl
@[simp] theorem withFpl_ifm (x) : (s.withFpl x).ifm = s.ifm := rfl
@[simp] theorem withFpl_tck (x) : (s.withFpl x).tck = s.tck := rfl
@[simp] theorem withFpl_fpl (x) : (s.withFpl x).fpl = x := rfl
@[simp] theorem withFpl_fsq (x) : (s.withFpl x).fsq = s.fsq := rfl
@[simp] theorem withFpl_sli (x) : (s.withFpl x).sli = s.sli := rfl
@[simp] theorem withFpl_fhc (x) : (s.withFpl x).fhc = s.fhc := rfl
@[simp] theorem withFpl_trc (x) : (s.withFpl x).trc = s.trc := rfl
@[simp] theorem withFpl_svp (x) : (s.withFpl x).svp = s.svp := rfl
@[simp] theorem withFpl_sst (x) : (s.withFpl x).sst = s.sst := rfl
@[simp] theorem withFpl_pending (x) : (s.withFpl x).pending = s.pending := rfl
@[simp] theorem withFpl_order (x) : (s.withFpl x).order = s.order := rfl
@[simp] theorem withFpl_draws (x) : (s.withFpl x).draws = s.draws := rfl

@[simp] theorem withFsq_lmu (x) : (s.withFsq x).lmu = s.lmu := rfl
@[simp] theorem withFsq_ofg (x) : (s.withFsq x).ofg = s.ofg := rfl
@[simp] theorem withFsq_ivd (x) : (s.withFsq x).ivd = s.ivd := rfl
@[simp] theorem withFsq_ifm (x) : (s.withFsq x).ifm = s.ifm := rfl
@[simp] theorem withFsq_tck (x) : (s.withFsq x).tck = s.tck := rfl
@[simp] theorem withFsq_fpl (x) : (s.withFsq x).fpl = s.fpl := rfl
@[simp] theorem withFsq_fsq (x) : (s.withFsq x).fsq = x := rfl
@[simp] theorem withFsq_sli (x) : (s.withFsq x).sli = s.sli := rfl
@[simp] theorem withFsq_fhc (x) : (s.withFsq x).fhc = s.fhc := rfl
@[simp] theorem withFsq_trc (x) : (s.withFsq x).trc = s.trc := rfl
@[simp] theorem withFsq_svp (x) : (s.withFsq x).svp = s.svp := rfl
@[simp] theorem withFsq_sst (x) : (s.withFsq x).sst = s.sst := rfl
@[simp] theorem withFsq_pending (x) : (s.withFsq x).pending = s.pending := rfl
@[simp] theorem withFsq_order (x) : (s.withFsq x).order = s.order := rfl
@[simp] theorem withFsq_draws (x) : (s.withFsq x).draws = s.draws := rfl

@[simp] theorem withSli_lmu (x) : (s.withSli x).lmu = s.lmu := rfl
@[simp] theorem withSli_ofg (x) : (s.withSli x).ofg = s.ofg := rfl
@[simp] theorem withSli_ivd (x) : (s.withSli x).ivd = s.ivd := rfl
@[simp] theorem withSli_ifm (x) : (s.withSli x).ifm = s.ifm := rfl
@[simp] theorem withSli_tck (x) : (s.withSli x).tck = s.tck := rfl
@[simp] theorem withSli_fpl (x) : (s.withSli x).fpl = s.fpl := rfl
@[simp] theorem withSli_fsq (x) : (s.withSli x).fsq = s.fsq := rfl
@[simp] theorem withSli_sli (x) : (s.withSli x).sli = x := rfl
@[simp] theorem withSli_fhc (x) : (s.withSli x).fhc = s.fhc := rfl
@[simp] theorem withSli_trc (x) : (s.withSli x).trc = s.trc := rfl
@[simp] theorem withSli_svp (x) : (s.withSli x).svp = s.svp := rfl
@[simp] theorem withSli_sst (x) : (s.withSli x).sst = s.sst := rfl
@[simp] theorem withSli_pending (x) : (s.withSli x).pending = s.pending := rfl
@[simp] theorem withSli_order (x) : (s.withSli x).order = s.order := rfl
@[simp] theorem withSli_draws (x) : (s.withSli x).draws = s.draws := rfl

@[simp] theorem withFhc_lmu (x) : (s.withFhc x).lmu = s.lmu := rfl
@[simp] theorem withFhc_ofg (x) : (s.withFhc x).ofg = s.ofg := rfl
@[simp] theorem withFhc_ivd (x) : (s.withFhc x).ivd = s.ivd := rfl
@[simp] theorem withFhc_ifm (x) : (s.withFhc x).ifm = s.ifm := rfl
@[simp] theorem withFhc_tck (x) : (s.withFhc x).tck = s.tck := rfl
@[simp] theorem withFhc_fpl (x) : (s.withFhc x).fpl = s.fpl := rfl
@[simp] theorem withFhc_fsq (x) : (s.withFhc x).fsq = s.fsq := rfl
@[simp] theorem withFhc_sli (x) : (s.withFhc x).sli = s.sli := rfl
@[simp] theorem withFhc_fhc (x) : (s.withFhc x).fhc = x := rfl
@[simp] theorem withFhc_trc (x) : (s.withFhc x).trc = s.trc := rfl
@[simp] theorem withFhc_svp (x) : (s.withFhc x).svp = s.svp := rfl
@[simp] theorem withFhc_sst (x) : (s.withFhc x).sst = s.sst := rfl
@[simp] theorem withFhc_pending (x) : (s.withFhc x).pending = s.pending := rfl
@[simp] theorem withFhc_order (x) : (s.withFhc x).order = s.order := rfl
@[simp] theorem withFhc_draws (x) : (s.withFhc x).draws = s.draws := rfl

@[simp] theorem withTrc_lmu (x) : (s.withTrc x).lmu = s.lmu := rfl
@[simp] theorem withTrc_ofg (x) : (s.withTrc x).ofg = s.ofg := rfl
@[simp] theorem withTrc_ivd (x) : (s.withTrc x).ivd = s.ivd := rfl
@[simp] theorem withTrc_ifm (x) : (s.withTrc x).ifm = s.ifm := rfl
@[simp] theorem withTrc_tck (x) : (s.withTrc x).tck = s.tck := rfl
@[simp] theorem withTrc_fpl (x) : (s.withTrc x).fpl = s.fpl := rfl
@[simp] theorem withTrc_fsq (x) : (s.withTrc x).fsq = s.fsq := rfl
@[simp] theorem withTrc_sli (x) : (s.withTrc x).sli = s.sli := rfl
@[simp] theorem withTrc_fhc (x) : (s.withTrc x).fhc = s.fhc := rfl
@[simp] theorem withTrc_trc (x) : (s.withTrc x).trc = x := rfl
@[simp] theorem withTrc_svp (x) : (s.withTrc x).svp = s.svp := rfl
@[simp] theorem withTrc_sst (x) : (s.withTrc x).sst = s.sst := rfl
@[simp] theorem withTrc_pending (x) : (s.withTrc x).pending = s.pending := rfl
@[simp] theorem withTrc_order (x) : (s.withTrc x).order = s.order := rfl
@[simp] theorem withTrc_draws (x) : (s.withTrc x).draws = s.draws := rfl

@[simp] theorem withSvp_lmu (x) : (s.withSvp x).lmu = s.lmu := rfl
@[simp] theorem withSvp_ofg (x) : (s.withSvp x).ofg = s.ofg := rfl
@[simp] theorem withSvp_ivd (x) : (s.withSvp x).ivd = s.ivd := rfl
@[simp] theorem withSvp_ifm (x) : (s.withSvp x).ifm = s.ifm := rfl
@[simp] theorem withSvp_tck (x) : (s.withSvp x).tck = s.tck := rfl
@[simp] theorem withSvp_fpl (x) : (s.withSvp x).fpl = s.fpl := rfl
@[simp] theorem withSvp_fsq (x) : (s.withSvp x).fsq = s.fsq := rfl
@[simp] theorem withSvp_sli (x) : (s.withSvp x).sli = s.sli := rfl
@[simp] theorem withSvp_fhc (x) : (s.withSvp x).fhc = s.fhc := rfl
@[simp] theorem withSvp_trc (x) : (s.withSvp x).trc = s.trc := rfl
@[simp] theorem withSvp_svp (x) : (s.withSvp x).svp = x := rfl
@[simp] theorem withSvp_sst (x) : (s.withSvp x).sst = s.sst := rfl
@[simp] theorem withSvp_pending (x) : (s.withSvp x).pending = s.pending := rfl
@[simp] theorem withSvp_order (x) : (s.withSvp x).order = s.order := rfl
@[simp] theorem withSvp_draws (x) : (s.withSvp x).draws = s.draws := rfl

@[simp] theorem withSst_lmu (x) : (s.withSst x).lmu = s.lmu := rfl
@[simp] theorem withSst_ofg (x) : (s.withSst x).ofg = s.ofg := rfl
@[simp] theorem withSst_ivd (x) : (s.withSst x).ivd = s.ivd := rfl
@[simp] theorem withSst_ifm (x) : (s.withSst x).ifm = s.ifm := rfl
@[simp] theorem withSst_tck (x) : (s.withSst x).tck = s.tck := rfl
@[simp] theorem withSst_fpl (x) : (s.withSst x).fpl = s.fpl := rfl
@[simp] theorem withSst_fsq (x) : (s.withSst x).fsq = s.fsq := rfl
@[simp] theorem withSst_sli (x) : (s.withSst x).sli = s.sli := rfl
@[simp] theorem withSst_fhc (x) : (s.withSst x).fhc = s.fhc := rfl
@[simp] theorem withSst_trc (x) : (s.withSst x).trc = s.trc := rfl
@[simp] theorem withSst_svp (x) : (s.withSst x).svp = s.svp := rfl
@[simp] theorem withSst_sst (x) : (s.withSst x).sst = x := rfl
@[simp] theorem withSst_pending (x) : (s.withSst x).pending = s.pending := rfl
@[simp] theorem withSst_order (x) : (s.withSst x).order = s.order := rfl
@[simp] theorem withSst_draws (x) : (s.withSst x).draws = s.draws := rfl

@[simp] theorem withPending_lmu (x) : (s.withPending x).lmu = s.lmu := rfl
@[simp] theorem withPending_ofg (x) : (s.withPending x).ofg = s.ofg := rfl
@[simp] theorem withPending_ivd (x) : (s.withPending x).ivd = s.ivd := rfl
@[simp] theorem withPending_ifm (x) : (s.withPending x).ifm = s.ifm := rfl
@[simp] theorem withPending_tck (x) : (s.withPending x).tck = s.tck := rfl
@[simp] theorem withPending_fpl (x) : (s.withPending x).fpl = s.fpl := rfl
@[simp] theorem withPending_fsq (x) : (s.withPending x).fsq = s.fsq := rfl
@[simp] theorem withPending_sli (x) : (s.withPending x).sli = s.sli := rfl
@[simp] theorem withPending_fhc (x) : (s.withPending x).fhc = s.fhc := rfl
@[simp] theorem withPending_trc (x) : (s.withPending x).trc = s.trc := rfl
@[simp] theorem withPending_svp (x) : (s.withPending x).svp = s.svp := rfl
@[simp] theorem withPending_sst (x) : (s.withPending x).sst = s.sst := rfl
@[simp] theorem withPending_pending (x) : (s.withPending x).pending = x := rfl
@[simp] theorem withPending_order (x) : (s.withPending x).order = s.order := rfl
@[simp] theorem withPending_draws (x) : (s.withPending x).draws = s.draws := rfl

@[simp] theorem withOrder_lmu (x) : (s.withOrder x).lmu = s.lmu := rfl
@[simp] theorem withOrder_ofg (x) : (s.withOrder x).ofg = s.ofg := rfl
@[simp] theorem withOrder_ivd (x) : (s.withOrder x).ivd = s.ivd := rfl
@[simp] theorem withOrder_ifm (x) : (s.withOrder x).ifm = s.ifm := rfl
@[simp] theorem withOrder_tck (x) : (s.withOrder x).tck = s.tck := rfl
@[simp] theorem withOrder_fpl (x) : (s.withOrder x).fpl = s.fpl := rfl
@[simp] theorem withOrder_fsq (x) : (s.withOrder x).fsq = s.fsq := rfl
@[simp] theorem withOrder_sli (x) : (s.withOrder x).sli = s.sli := rfl
@[simp] theorem withOrder_fhc (x) : (s.withOrder x).fhc = s.fhc := rfl
@[simp] theorem withOrder_trc (x) : (s.withOrder x).trc = s.trc := rfl
@[simp] theorem withOrder_svp (x) : (s.withOrder x).svp = s.svp := rfl
@[simp] theorem withOrder_sst (x) : (s.withOrder x).sst = s.sst := rfl
@[simp] theorem withOrder_pending (x) : (s.withOrder x).pending = s.pending := rfl
@[simp] theorem withOrder_order (x) : (s.withOrder x).order = x := rfl
@[simp] theorem withOrder_draws (x) : (s.withOrder x).draws = s.draws := rfl

@[simp] theorem withDraws_lmu (x) : (s.withDraws x).lmu = s.lmu := rfl
@[simp] theorem withDraws_ofg (x) : (s.withDraws x).ofg = s.ofg := rfl
@[simp] theorem withDraws_ivd (x) : (s.withDraws x).ivd = s.ivd := rfl
@[simp] theorem withDraws_ifm (x) : (s.withDraws x).ifm = s.ifm := rfl
@[simp] theorem withDraws_tck (x) : (s.withDraws x).tck = s.tck := rfl
@[simp] theorem withDraws_fpl (x) : (s.withDraws x).fpl = s.fpl := rfl
@[simp] theorem withDraws_fsq (x) : (s.withDraws x).fsq = s.fsq := rfl
@[simp] theorem withDraws_sli (x) : (s.withDraws x).sli = s.sli := rfl
@[simp] theorem withDraws_fhc (x) : (s.withDraws x).fhc = s.fhc := rfl
@[simp] theorem withDraws_trc (x) : (s.withDraws x).trc = s.trc := rfl
@[simp] theorem withDraws_svp (x) : (s.withDraws x).svp = s.svp := rfl
@[simp] theorem withDraws_sst (x) : (s.withDraws x).sst = s.sst := rfl
@[simp] theorem withDraws_pending (x) : (s.withDraws x).pending = s.pending := rfl
@[simp] theorem withDraws_order (x) : (s.withDraws x).order = s.order := rfl
@[simp] theorem withDraws_draws (x) : (s.withDraws x).draws = x := rfl

@[simp] theorem withLmu_self : s.withLmu s.lmu = s := rfl
@[simp] theorem withLmu_withLmu (x y) : (s.withLmu x).withLmu y = s.withLmu y := rfl
@[simp] theorem withOfg_self : s.withOfg s.ofg = s := rfl
@[simp] theorem withOfg_withOfg (x y) : (s.withOfg x).withOfg y = s.withOfg y := rfl
@[simp] theorem withIvd_self : s.withIvd s.ivd = s := rfl
@[simp] theorem withIvd_withIvd (x y) : (s.withIvd x).withIvd y = s.withIvd y := rfl
@[simp] theorem withIfm_self : s.withIfm s.ifm = s := rfl
@[simp] theorem withIfm_withIfm (x y) : (s.withIfm x).withIfm y = s.withIfm y := rfl
@[simp] theorem withTck_self : s.withTck s.tck = s := rfl
@[simp] theorem withTck_withTck (x y) : (s.withTck x).withTck y = s.withTck y := rfl
@[simp] theorem withFpl_self : s.withFpl s.fpl = s := rfl
@[simp] theorem withFpl_withFpl (x y) : (s.withFpl x).withFpl y = s.withFpl y := rfl
@[simp] theorem withFsq_self : s.withFsq s.fsq = s := rfl
@[simp] theorem withFsq_withFsq (x y) : (s.withFsq x).withFsq y = s.withFsq y := rfl
@[simp] theorem withSli_self : s.withSli s.sli = s := rfl
@[simp] theorem withSli_withSli (x y) : (s.withSli x).withSli y = s.withSli y := rfl
@[simp] theorem withFhc_self : s.withFhc s.fhc = s := rfl
@[simp] theorem withFhc_withFhc (x y) : (s.withFhc x).withFhc y = s.withFhc y := rfl
@[simp] theorem withTrc_self : s.withTrc s.trc = s := rfl
@[simp] theorem withTrc_withTrc (x y) : (s.withTrc x).withTrc y = s.withTrc y := rfl
@[simp] theorem withSvp_self : s.withSvp s.svp = s := rfl
@[simp] theorem withSvp_withSvp (x y) : (s.withSvp x).withSvp y = s.withSvp y := rfl
@[simp] theorem withSst_self : s.withSst s.sst = s := rfl
@[simp] theorem withSst_withSst (x y) : (s.withSst x).withSst y = s.withSst y := rfl
@[simp] theorem withPending_self : s.withPending s.pending = s := rfl
@[simp] theorem withPending_withPending (x y) : (s.withPending x).withPending y = s.withPending y := rfl
@[simp] theorem withOrder_self : s.withOrder s.order = s := rfl
@[simp] theorem withOrder_withOrder (x y) : (s.withOrder x).withOrder y = s.withOrder y := rfl
@[simp] theorem withDraws_self : s.withDraws s.draws = s := rfl
@[simp] theorem withDraws_withDraws (x y) : (s.withDraws x).withDraws y = s.withDraws y := rfl

end Sys2Proof.Machine.State
end

