-- ==== Sys2Proof/Laws/Fixed.lean ====
section
/-! SUPPORT. What the sequence, the guard, the valve, the station line, the heating and the meter leave alone: one lemma for each operation
says that level measurement, the clock, the settings, the store and the model's own fields stay as they were. -/
namespace Sys2Proof.Machine

/-- The part of the state that no hand-over among the acting blocks changes. -/
structure Fixed where
  lmu : Lmu
  tck : Tck
  working : Settings
  image : Option Image
  imageValid : Bool
  writing : Option Settings
  keepHeat : Bool
  pending : List Instr
  order : List Block
  draws : Nat

def State.fixed (s : State) : Fixed :=
  ⟨s.lmu, s.tck, s.sst.working, s.sst.image, s.sst.imageValid, s.sst.writing, s.sst.keepHeat, s.pending, s.order, s.draws⟩

section
variable (s : State)

@[simp] theorem fixed_withOfg (x) : (s.withOfg x).fixed = s.fixed := rfl
@[simp] theorem fixed_withIvd (x) : (s.withIvd x).fixed = s.fixed := rfl
@[simp] theorem fixed_withIfm (x) : (s.withIfm x).fixed = s.fixed := rfl
@[simp] theorem fixed_withFpl (x) : (s.withFpl x).fixed = s.fixed := rfl
@[simp] theorem fixed_withFsq (x) : (s.withFsq x).fixed = s.fixed := rfl
@[simp] theorem fixed_withSli (x) : (s.withSli x).fixed = s.fixed := rfl
@[simp] theorem fixed_withFhc (x) : (s.withFhc x).fixed = s.fixed := rfl
@[simp] theorem fixed_withTrc (x) : (s.withTrc x).fixed = s.fixed := rfl
@[simp] theorem fixed_withSvp (x) : (s.withSvp x).fixed = s.fixed := rfl

/-- What the fixed part says field by field. -/
theorem fixed_iff (s t : State) : t.fixed = s.fixed ↔
    t.lmu = s.lmu ∧ t.tck = s.tck ∧ t.cfg = s.cfg ∧ t.sst.image = s.sst.image ∧ t.sst.imageValid = s.sst.imageValid ∧
    t.sst.writing = s.sst.writing ∧ t.sst.keepHeat = s.sst.keepHeat ∧ t.pending = s.pending ∧ t.order = s.order ∧
    t.draws = s.draws := by
  simp [State.fixed, State.cfg]

theorem handTo_fixed (receivers : List Block) (take : Block → State → State)
    (h : ∀ b t, (take b t).fixed = t.fixed) : (s.handTo receivers take).fixed = s.fixed := by
  have key : ∀ (l : List Block) (t : State), (l.foldl (fun t b => take b t) t).fixed = t.fixed := by
    intro l
    induction l with
    | nil => intro t; rfl
    | cons b l ih => intro t; rw [List.foldl_cons, ih, h]
  exact key _ _

theorem foldl_fixed {α : Type} (l : List α) (f : State → α → State) (h : ∀ t a, (f t a).fixed = t.fixed) :
    (l.foldl f s).fixed = s.fixed := by
  induction l generalizing s with
  | nil => rfl
  | cons a l ih => rw [List.foldl_cons, ih, h]

/-! ### Notices, triggers, heating -/

@[simp] theorem raise_fixed (c f) : (s.raise c f).fixed = s.fixed := rfl
@[simp] theorem takeTrigger_fixed (t) : (takeTrigger t s).fixed = s.fixed := rfl
@[simp] theorem recordGuardChange_fixed (o n) : (recordGuardChange o n s).fixed = s.fixed := by
  unfold recordGuardChange; split <;> simp
@[simp] theorem setZone_fixed (z r) : (setZone z r s).fixed = s.fixed := rfl
@[simp] theorem judgeNeeds_fixed (w) : (judgeNeeds w s).fixed = s.fixed := rfl
@[simp] theorem powerRun_fixed : (powerRun s).fixed = s.fixed := by unfold powerRun; split <;> simp
@[simp] theorem reviewNeeds_fixed (w) : (reviewNeeds w s).fixed = s.fixed := by
  unfold reviewNeeds; (repeat' first | dsimp only | split) <;> (try simp) <;> rfl
@[simp] theorem setBoost_fixed (z b) : (setBoost z b s).fixed = s.fixed := by
  unfold setBoost; (repeat' first | dsimp only | split) <;> (try simp) <;> rfl
@[simp] theorem heatingSequence_fixed : (heatingSequence s).fixed = s.fixed := by
  unfold heatingSequence; (repeat' first | dsimp only | split) <;> (try simp) <;> rfl
@[simp] theorem heatingSample_fixed : (heatingSample s).fixed = s.fixed := by
  unfold heatingSample; (repeat' first | dsimp only | split) <;> (try simp) <;> rfl
@[simp] theorem endHold_fixed : (endHold s).fixed = s.fixed := by
  unfold endHold; (repeat' first | dsimp only | split) <;> (try simp) <;> rfl
@[simp] theorem minOnExpiry_fixed (z) : (minOnExpiry z s).fixed = s.fixed := by
  unfold minOnExpiry; (repeat' first | dsimp only | split) <;> (try simp) <;> rfl
@[simp] theorem confirmExpiry_fixed (z) : (confirmExpiry z s).fixed = s.fixed := by
  unfold confirmExpiry; (repeat' first | dsimp only | split) <;> (try simp) <;> rfl
@[simp] theorem clearZone_fixed (z) : (clearZone z s).fixed = s.fixed := by
  unfold clearZone; (repeat' first | dsimp only | split) <;> (try simp) <;> rfl
@[simp] theorem zoneChange_fixed (z) : (zoneChange z s).fixed = s.fixed := by
  unfold zoneChange; (repeat' first | dsimp only | split) <;> (try simp) <;> rfl

/-! ### Meter, planner, store -/

@[simp] theorem judgeArm_fixed : (judgeArm s).fixed = s.fixed := by
  unfold judgeArm; (repeat' first | dsimp only | split) <;> (try simp) <;> rfl
@[simp] theorem plannerFillOpen_fixed : (plannerFillOpen s).fixed = s.fixed := by
  unfold plannerFillOpen; (repeat' first | dsimp only | split) <;> (try simp) <;> rfl
@[simp] theorem plannerFillClose_fixed (t m) : (plannerFillClose t m s).fixed = s.fixed := by
  unfold plannerFillClose; (repeat' first | dsimp only | split) <;> (try simp) <;> rfl
@[simp] theorem startNotice_fixed : (startNotice s).fixed = s.fixed := rfl
@[simp] theorem restartNotice_fixed (o) : (restartNotice o s).fixed = s.fixed := rfl
@[simp] theorem partNotice_fixed (o) : (partNotice o s).fixed = s.fixed := rfl
@[simp] theorem judgeRest_fixed : (judgeRest s).fixed = s.fixed := by
  unfold judgeRest; (repeat' first | dsimp only | split) <;> (try simp) <;> rfl
@[simp] theorem storeSequence_fixed (b) : (storeSequence b s).fixed = s.fixed := by
  unfold storeSequence; (repeat' first | dsimp only | split) <;> (try simp) <;> rfl
@[simp] theorem enterSeq_fixed (q) : (enterSeq q s).fixed = s.fixed := by
  unfold enterSeq; rw [handTo_fixed _ _ _ fun b t => storeSequence_fixed t b]; rfl

/-! ### Valve, guard's valve events -/

@[simp] theorem noteFault_fixed (c) : (noteFault c s).fixed = s.fixed := by
  unfold noteFault; (repeat' first | dsimp only | split) <;> (try simp) <;> rfl
@[simp] theorem startClosing_fixed : (startClosing s).fixed = s.fixed := by
  unfold startClosing; (repeat' first | dsimp only | split) <;> (try simp) <;> rfl
@[simp] theorem arriveClosed_fixed : (arriveClosed s).fixed = s.fixed := by
  unfold arriveClosed; (repeat' first | dsimp only | split) <;> (try simp) <;> rfl
@[simp] theorem recoverClosed_fixed (c) : (recoverClosed c s).fixed = s.fixed := by
  unfold recoverClosed; (repeat' first | dsimp only | split) <;> (try simp) <;> rfl
@[simp] theorem setWish_fixed (c) : (setWish c s).fixed = s.fixed := by
  unfold setWish; (repeat' first | dsimp only | split) <;> (try simp) <;> rfl
@[simp] theorem setHold_fixed (h) : (setHold h s).fixed = s.fixed := by
  unfold setHold; (repeat' first | dsimp only | split) <;> (try simp) <;> rfl
@[simp] theorem noticeGuard_fixed (o u) : (noticeGuard o u s).fixed = s.fixed := by
  unfold noticeGuard; (repeat' first | dsimp only | split) <;> (try simp) <;> rfl
@[simp] theorem moveGuard_fixed (n) : (moveGuard n s).fixed = s.fixed := by
  unfold moveGuard; (repeat' first | dsimp only | split) <;> (try simp) <;> rfl
@[simp] theorem escalate_fixed (c) : (escalate c s).fixed = s.fixed := by
  unfold escalate; (repeat' first | dsimp only | split) <;> (try simp) <;> rfl
@[simp] theorem testReport_fixed (r) : (testReport r s).fixed = s.fixed := by
  unfold testReport; (repeat' first | dsimp only | split) <;> (try simp) <;> rfl
@[simp] theorem guardValve_fixed (e) : (guardValve e s).fixed = s.fixed := by
  unfold guardValve; (repeat' first | dsimp only | split) <;> (try simp) <;> rfl
@[simp] theorem valveClose_fixed : (valveClose s).1.fixed = s.fixed := by
  unfold valveClose; (repeat' first | dsimp only | split) <;> (try simp) <;> rfl
@[simp] theorem bothLimits_fixed : (bothLimits s).1.fixed = s.fixed := by
  unfold bothLimits; (repeat' first | dsimp only | split) <;> (try simp) <;> rfl
@[simp] theorem loseLimit_fixed (l) : (loseLimit l s).1.fixed = s.fixed := by
  unfold loseLimit; (repeat' first | dsimp only | split) <;> (try simp) <;> rfl
@[simp] theorem valveLimits_fixed (p) : (valveLimits p s).1.fixed = s.fixed := by
  unfold valveLimits; (repeat' first | dsimp only | split) <;> (try simp) <;> rfl
@[simp] theorem watchdogExpiry_fixed : (watchdogExpiry s).1.fixed = s.fixed := by
  unfold watchdogExpiry; (repeat' first | dsimp only | split) <;> (try simp) <;> rfl
@[simp] theorem reproveExpiry_fixed : (reproveExpiry s).1.fixed = s.fixed := by
  unfold reproveExpiry; (repeat' first | dsimp only | split) <;> (try simp) <;> rfl
@[simp] theorem valveOpen_fixed : (valveOpen s).2.1.fixed = s.fixed := by
  unfold valveOpen; (repeat' first | dsimp only | split) <;> simp
theorem takeValveEvent_fixed (f : ValveEvent → State → State) (hf : ∀ e t, (f e t).fixed = t.fixed) (e b) (t : State) :
    (takeValveEvent f e b t).fixed = t.fixed := by
  unfold takeValveEvent; (repeat' split) <;> simp [hf]
theorem handValveEvents_fixed (f : ValveEvent → State → State) (hf : ∀ e t, (f e t).fixed = t.fixed) (es) :
    (handValveEvents f es s).fixed = s.fixed :=
  foldl_fixed _ _ _ fun t e => handTo_fixed t _ _ fun b t => takeValveEvent_fixed f hf e b t

/-! ### Fill Sequencer -/

@[simp] theorem setSeqRow_fixed (k r) : (setSeqRow k r s).fixed = s.fixed := by
  unfold setSeqRow; (repeat' first | dsimp only | split) <;> (try simp) <;> rfl
@[simp] theorem onFill_fixed (g) : (onFill g s).fixed = s.fixed := by
  unfold onFill; (repeat' first | dsimp only | split) <;> (try simp) <;> rfl
@[simp] theorem dropRow_fixed (k) : (dropRow k s).fixed = s.fixed := by
  unfold dropRow; (repeat' first | dsimp only | split) <;> (try simp) <;> rfl
@[simp] theorem retarget_fixed : (retarget s).fixed = s.fixed := by
  unfold retarget; (repeat' first | dsimp only | split) <;> (try simp) <;> rfl
@[simp] theorem countAttempt_fixed (k c) : (countAttempt k c s).fixed = s.fixed := by
  unfold countAttempt; (repeat' first | dsimp only | split) <;> (try simp) <;> rfl
@[simp] theorem judgeFailure_fixed (f) : (judgeFailure f s).fixed = s.fixed := by
  unfold judgeFailure; (repeat' first | dsimp only | split) <;> (try simp) <;> rfl
@[simp] theorem closeRecord_fixed : (closeRecord s).fixed = s.fixed := by
  unfold closeRecord; (repeat' first | dsimp only | split) <;> (try simp) <;> rfl
@[simp] theorem closingValve_fixed (e) : (closingValve e s).fixed = s.fixed := by
  unfold closingValve; (repeat' first | dsimp only | split) <;> (try simp) <;> rfl
@[simp] theorem closeValve_fixed : (closeValve s).fixed = s.fixed := by
  unfold closeValve
  rw [handValveEvents_fixed _ _ fun e t => closingValve_fixed t e]; simp
@[simp] theorem recordEnd_fixed (c) : (recordEnd c s).fixed = s.fixed := rfl
@[simp] theorem enterOpening_fixed : (enterOpening s).fixed = s.fixed := by
  unfold enterOpening
  dsimp only
  split
  · rw [handValveEvents_fixed _ _ fun _ _ => rfl]; simp
  · simp
@[simp] theorem enterPrepare_fixed : (enterPrepare s).fixed = s.fixed := by
  unfold enterPrepare; (repeat' first | dsimp only | split) <;> (try simp) <;> rfl
@[simp] theorem startFill_fixed (k g) : (startFill k g s).fixed = s.fixed := by
  unfold startFill; (repeat' first | dsimp only | split) <;> (try simp) <;> rfl
@[simp] theorem startCheck_fixed : (startCheck s).fixed = s.fixed := by
  unfold startCheck; (repeat' first | dsimp only | split) <;> (try simp) <;> rfl
@[simp] theorem enterClosing_fixed : (enterClosing s).fixed = s.fixed := by
  unfold enterClosing; (repeat' first | dsimp only | split) <;> (try simp) <;> rfl
@[simp] theorem enterReleasing_fixed : (enterReleasing s).fixed = s.fixed := by
  unfold enterReleasing; (repeat' first | dsimp only | split) <;> (try simp) <;> rfl
@[simp] theorem endFill_fixed (c) : (endFill c s).fixed = s.fixed := by
  unfold endFill; (repeat' first | dsimp only | split) <;> (try simp) <;> rfl
@[simp] theorem rowsRemoved_fixed (c) : (rowsRemoved c s).fixed = s.fixed := by
  unfold rowsRemoved; (repeat' first | dsimp only | split) <;> (try simp) <;> rfl
@[simp] theorem raiseRow_fixed (k r) : (raiseRow k r s).fixed = s.fixed := by
  unfold raiseRow; (repeat' first | dsimp only | split) <;> (try simp) <;> rfl
@[simp] theorem enterFilling_fixed : (enterFilling s).fixed = s.fixed := by
  unfold enterFilling; (repeat' first | dsimp only | split) <;> (try simp) <;> rfl
@[simp] theorem enterCalling_fixed : (enterCalling s).fixed = s.fixed := by
  unfold enterCalling; (repeat' first | dsimp only | split) <;> (try simp) <;> rfl
@[simp] theorem endRelease_fixed : (endRelease s).fixed = s.fixed := by
  unfold endRelease; (repeat' first | dsimp only | split) <;> (try simp) <;> rfl
@[simp] theorem sequenceCode_fixed (c) : (sequenceCode c s).fixed = s.fixed := by
  unfold sequenceCode; (repeat' first | dsimp only | split) <;> (try simp) <;> rfl
@[simp] theorem sequenceLost_fixed : (sequenceLost s).fixed = s.fixed := by
  unfold sequenceLost; (repeat' first | dsimp only | split) <;> (try simp) <;> rfl
@[simp] theorem sequenceValve_fixed (e) : (sequenceValve e s).fixed = s.fixed := by
  unfold sequenceValve; (repeat' first | dsimp only | split) <;> (try simp) <;> rfl
@[simp] theorem deliverValve_fixed (r : State × List ValveEvent) : (deliverValve r).fixed = r.1.fixed :=
  handValveEvents_fixed _ _ (fun e t => sequenceValve_fixed t e) _
@[simp] theorem sequencePermission_fixed (w) : (sequencePermission w s).fixed = s.fixed := by
  unfold sequencePermission; (repeat' first | dsimp only | split) <;> (try simp) <;> rfl
@[simp] theorem sequenceTrip_fixed : (sequenceTrip s).fixed = s.fixed := by
  unfold sequenceTrip; (repeat' first | dsimp only | split) <;> (try simp) <;> rfl
theorem dropIfReached_fixed (v k) : (dropIfReached v s k).fixed = s.fixed := by unfold dropIfReached; split <;> simp
@[simp] theorem dropReached_fixed (v) : (dropReached v s).fixed = s.fixed := foldl_fixed _ _ _ fun t k => dropIfReached_fixed t v k
@[simp] theorem stopCheck_fixed : (stopCheck s).fixed = s.fixed := by
  unfold stopCheck; (repeat' first | dsimp only | split) <;> (try simp) <;> rfl
@[simp] theorem floorCheck_fixed : (floorCheck s).fixed = s.fixed := by
  unfold floorCheck; (repeat' first | dsimp only | split) <;> (try simp) <;> rfl
@[simp] theorem sequenceSample_fixed : (sequenceSample s).fixed = s.fixed := by
  unfold sequenceSample; (repeat' first | dsimp only | split) <;> (try simp) <;> rfl
@[simp] theorem nightDemand_fixed (t p) : (nightDemand t p s).fixed = s.fixed := by
  unfold nightDemand; (repeat' first | dsimp only | split) <;> (try simp) <;> rfl
@[simp] theorem topupOver_fixed (c) : (topupOver c s).fixed = s.fixed := by
  unfold topupOver; (repeat' first | dsimp only | split) <;> (try simp) <;> rfl
@[simp] theorem manualDemand_fixed (l v) : (manualDemand l v s).fixed = s.fixed := by
  unfold manualDemand; (repeat' first | dsimp only | split) <;> (try simp) <;> rfl
@[simp] theorem manualCancel_fixed : (manualCancel s).fixed = s.fixed := by
  unfold manualCancel; (repeat' first | dsimp only | split) <;> (try simp) <;> rfl
@[simp] theorem turnoverExpiry_fixed : (turnoverExpiry s).fixed = s.fixed := by
  unfold turnoverExpiry; (repeat' first | dsimp only | split) <;> (try simp) <;> rfl
theorem cutRow_fixed (c k) : (cutRow c s k).fixed = s.fixed := by unfold cutRow; (repeat' first | dsimp only | split) <;> simp
theorem cutRows_fixed (c) : (Kind.all.foldl (cutRow c) s).fixed = s.fixed := foldl_fixed _ _ _ fun t k => cutRow_fixed t c k
@[simp] theorem sequenceCut_fixed (c) : (sequenceCut c s).fixed = s.fixed := by
  unfold sequenceCut; (repeat' first | dsimp only | split) <;> simp [cutRows_fixed]
@[simp] theorem setHostHold_fixed (h) : (setHostHold h s).fixed = s.fixed := by
  unfold setHostHold; (repeat' first | dsimp only | split) <;> (try simp) <;> rfl
@[simp] theorem sequencePart_fixed (n) : (sequencePart n s).fixed = s.fixed := by
  unfold sequencePart; (repeat' first | dsimp only | split) <;> (try simp) <;> rfl
@[simp] theorem prepareExpiry_fixed : (prepareExpiry s).fixed = s.fixed := by
  unfold prepareExpiry; (repeat' first | dsimp only | split) <;> (try simp) <;> rfl
@[simp] theorem sequencePath_fixed : (sequencePath s).fixed = s.fixed := by
  unfold sequencePath; (repeat' first | dsimp only | split) <;> (try simp) <;> rfl
@[simp] theorem callExpiry_fixed : (callExpiry s).fixed = s.fixed := by
  unfold callExpiry; (repeat' first | dsimp only | split) <;> (try simp) <;> rfl
@[simp] theorem releaseExpiry_fixed : (releaseExpiry s).fixed = s.fixed := by
  unfold releaseExpiry; (repeat' first | dsimp only | split) <;> (try simp) <;> rfl
@[simp] theorem retryExpiry_fixed : (retryExpiry s).fixed = s.fixed := by
  unfold retryExpiry; (repeat' first | dsimp only | split) <;> (try simp) <;> rfl
@[simp] theorem sequenceStall_fixed : (sequenceStall s).fixed = s.fixed := by
  unfold sequenceStall; (repeat' first | dsimp only | split) <;> (try simp) <;> rfl
@[simp] theorem floorBand_fixed (o n) : (floorBand o n s).fixed = s.fixed := by
  unfold floorBand; (repeat' first | dsimp only | split) <;> (try simp) <;> rfl
@[simp] theorem topupBand_fixed (o n) : (topupBand o n s).fixed = s.fixed := by
  unfold topupBand; (repeat' first | dsimp only | split) <;> (try simp) <;> rfl
@[simp] theorem continueFill_fixed (o) : (continueFill o s).fixed = s.fixed := by
  unfold continueFill; (repeat' first | dsimp only | split) <;> (try simp) <;> rfl
@[simp] theorem sequenceBand_fixed (o n) : (sequenceBand o n s).fixed = s.fixed := by
  unfold sequenceBand; (repeat' first | dsimp only | split) <;> (try simp) <;> rfl

/-! ### Overflow Guard -/

@[simp] theorem judgePermission_fixed : (judgePermission s).fixed = s.fixed := by
  unfold judgePermission; (repeat' first | dsimp only | split) <;> (try simp) <;> rfl
@[simp] theorem cutBelow_fixed (o n) : (cutBelow o n s).fixed = s.fixed := by
  unfold cutBelow; (repeat' first | dsimp only | split) <;> (try simp) <;> rfl
@[simp] theorem recomputeCeiling_fixed : (recomputeCeiling s).fixed = s.fixed := by
  unfold recomputeCeiling; (repeat' first | dsimp only | split) <;> (try simp) <;> rfl
@[simp] theorem endTest_fixed (r) : (endTest r s).fixed = s.fixed := by
  unfold endTest; (repeat' first | dsimp only | split) <;> (try simp) <;> rfl
@[simp] theorem trip_fixed (c i) : (trip c i s).fixed = s.fixed := by
  unfold trip; (repeat' first | dsimp only | split) <;> (try simp) <;> rfl
@[simp] theorem guardSight_fixed : (guardSight s).fixed = s.fixed := by
  unfold guardSight; (repeat' first | dsimp only | split) <;> (try simp) <;> rfl
@[simp] theorem announce_fixed (a b) : (announce a b s).fixed = s.fixed := by
  unfold announce; (repeat' first | dsimp only | split) <;> (try simp) <;> rfl
@[simp] theorem warnStages_fixed : (warnStages s).fixed = s.fixed := by
  unfold warnStages; (repeat' first | dsimp only | split) <;> (try simp) <;> rfl
@[simp] theorem guardStages_fixed : (guardStages s).fixed = s.fixed := by
  unfold guardStages; (repeat' first | dsimp only | split) <;> (try simp) <;> rfl
@[simp] theorem guardRise_fixed : (guardRise s).fixed = s.fixed := by
  unfold guardRise; (repeat' first | dsimp only | split) <;> (try simp) <;> rfl
@[simp] theorem foundPassing_fixed : (foundPassing s).fixed = s.fixed := by
  unfold foundPassing; (repeat' first | dsimp only | split) <;> (try simp) <;> rfl
@[simp] theorem guardPassing_fixed (b) : (guardPassing b s).fixed = s.fixed := by
  unfold guardPassing; (repeat' first | dsimp only | split) <;> (try simp) <;> rfl
@[simp] theorem guardTestStep_fixed (b) : (guardTestStep b s).fixed = s.fixed := by
  unfold guardTestStep; (repeat' first | dsimp only | split) <;> (try simp) <;> rfl
@[simp] theorem guardSample_fixed : (guardSample s).fixed = s.fixed := by
  unfold guardSample; (repeat' first | dsimp only | split) <;> (try simp) <;> rfl
@[simp] theorem spillChange_fixed (p) : (spillChange p s).fixed = s.fixed := by
  unfold spillChange; (repeat' first | dsimp only | split) <;> (try simp) <;> rfl
@[simp] theorem releaseLatch_fixed : (releaseLatch s).fixed = s.fixed := by
  unfold releaseLatch; (repeat' first | dsimp only | split) <;> (try simp) <;> rfl
@[simp] theorem guardChange_fixed : (guardChange s).fixed = s.fixed := by
  unfold guardChange; (repeat' first | dsimp only | split) <;> (try simp) <;> rfl
@[simp] theorem guardPart_fixed (n) : (guardPart n s).fixed = s.fixed := by
  unfold guardPart; (repeat' first | dsimp only | split) <;> (try simp) <;> rfl
@[simp] theorem guardClear_fixed : (guardClear s).2.fixed = s.fixed := by
  unfold guardClear; (repeat' first | dsimp only | split) <;> (try simp) <;> rfl
@[simp] theorem guardTestStart_fixed (f) : (guardTestStart f s).2.fixed = s.fixed := by
  unfold guardTestStart; (repeat' first | dsimp only | split) <;> (try simp) <;> rfl

/-! ### Overflow path and season -/

@[simp] theorem takePath_fixed (b) : (takePath b s).fixed = s.fixed := by
  unfold takePath; (repeat' first | dsimp only | split) <;> (try simp) <;> rfl
@[simp] theorem judgePath_fixed : (judgePath s).fixed = s.fixed := by
  unfold judgePath
  dsimp only
  split
  · rfl
  · rw [raise_fixed, handTo_fixed _ _ _ fun b t => takePath_fixed t b]; rfl
@[simp] theorem judgeReading_fixed (p) : (judgeReading p s).fixed = s.fixed := by
  unfold judgeReading; (repeat' first | dsimp only | split) <;> (try simp) <;> rfl
@[simp] theorem temperatureArrival_fixed (p v) : (temperatureArrival p v s).fixed = s.fixed := by
  unfold temperatureArrival; (repeat' first | dsimp only | split) <;> (try simp) <;> rfl
@[simp] theorem validityExpiry_fixed (p) : (validityExpiry p s).fixed = s.fixed := by
  unfold validityExpiry; (repeat' first | dsimp only | split) <;> (try simp) <;> rfl
@[simp] theorem startExpiry_fixed : (startExpiry s).fixed = s.fixed := by
  unfold startExpiry; (repeat' first | dsimp only | split) <;> (try simp) <;> rfl
@[simp] theorem seasonReported_fixed : (seasonReported s).fixed = s.fixed := by
  unfold seasonReported; (repeat' first | dsimp only | split) <;> (try simp) <;> rfl
@[simp] theorem seasonStep_fixed : (seasonStep s).fixed = s.fixed := by
  unfold seasonStep; (repeat' first | dsimp only | split) <;> (try simp) <;> rfl
@[simp] theorem heatChange_fixed : (heatChange s).fixed = s.fixed := by
  unfold heatChange; (repeat' first | dsimp only | split) <;> (try simp) <;> rfl

/-! ### Station line -/

@[simp] theorem lineNotice_fixed (o) : (lineNotice o s).fixed = s.fixed := by
  unfold lineNotice; (repeat' first | dsimp only | split) <;> (try simp) <;> rfl
@[simp] theorem setCounter_fixed (n) : (setCounter n s).fixed = s.fixed := by
  unfold setCounter; (repeat' first | dsimp only | split) <;> (try simp) <;> rfl
@[simp] theorem uncalledSupply_fixed : (uncalledSupply s).fixed = s.fixed := by
  unfold uncalledSupply; (repeat' first | dsimp only | split) <;> (try simp) <;> rfl
@[simp] theorem judgeUncalled_fixed : (judgeUncalled s).fixed = s.fixed := by
  unfold judgeUncalled; (repeat' first | dsimp only | split) <;> (try simp) <;> rfl
@[simp] theorem judgeRelease_fixed : (judgeRelease s).fixed = s.fixed := by
  unfold judgeRelease; (repeat' first | dsimp only | split) <;> (try simp) <;> rfl
@[simp] theorem takeCode_fixed (c b) : (takeCode c b s).fixed = s.fixed := by
  unfold takeCode; (repeat' first | dsimp only | split) <;> (try simp) <;> rfl
@[simp] theorem acceptCode_fixed (c) : (acceptCode c s).fixed = s.fixed := by
  unfold acceptCode; rw [judgeUncalled_fixed, handTo_fixed _ _ _ fun b t => takeCode_fixed t c b]; rfl
@[simp] theorem persistence_fixed (c) : (persistence c s).fixed = s.fixed := by
  unfold persistence; (repeat' first | dsimp only | split) <;> (try simp) <;> rfl
@[simp] theorem recoverLine_fixed : (recoverLine s).fixed = s.fixed := by
  unfold recoverLine; (repeat' first | dsimp only | split) <;> (try simp) <;> rfl
@[simp] theorem goodFrame_fixed (c) : (goodFrame c s).fixed = s.fixed := by
  unfold goodFrame; (repeat' first | dsimp only | split) <;> (try simp) <;> rfl
@[simp] theorem takeLost_fixed (b) : (takeLost b s).fixed = s.fixed := by
  unfold takeLost; (repeat' first | dsimp only | split) <;> (try simp) <;> rfl
@[simp] theorem loseLine_fixed : (loseLine s).fixed = s.fixed := by
  unfold loseLine; dsimp only; rw [handTo_fixed _ _ _ fun b t => takeLost_fixed t b]; simp
@[simp] theorem logError_fixed : (logError s).fixed = s.fixed := by
  unfold logError; (repeat' first | dsimp only | split) <;> (try simp) <;> rfl
@[simp] theorem lineError_fixed (k) : (lineError k s).fixed = s.fixed := by
  unfold lineError; (repeat' first | dsimp only | split) <;> (try simp) <;> rfl
@[simp] theorem silenceExpiry_fixed : (silenceExpiry s).fixed = s.fixed := by
  unfold silenceExpiry; (repeat' first | dsimp only | split) <;> (try simp) <;> rfl
@[simp] theorem takeFrame_fixed (a c k) : (takeFrame a c k s).fixed = s.fixed := by
  unfold takeFrame; (repeat' first | dsimp only | split) <;> (try simp) <;> rfl
@[simp] theorem stationFrame_fixed (a c k) : (stationFrame a c k s).fixed = s.fixed := by
  unfold stationFrame; (repeat' first | dsimp only | split) <;> (try simp) <;> rfl
@[simp] theorem lineEvent_fixed (e) : (lineEvent e s).fixed = s.fixed := by
  unfold lineEvent; (repeat' first | dsimp only | split) <;> (try simp) <;> rfl
@[simp] theorem stationBit_fixed (b) : (stationBit b s).fixed = s.fixed := by
  unfold stationBit; (repeat' first | dsimp only | split) <;> (try simp) <;> rfl
@[simp] theorem burstEnd_fixed : (burstEnd s).fixed = s.fixed := by
  unfold burstEnd; (repeat' first | dsimp only | split) <;> (try simp) <;> rfl
@[simp] theorem lineChange_fixed (o) : (lineChange o s).fixed = s.fixed := by
  unfold lineChange; (repeat' first | dsimp only | split) <;> (try simp) <;> rfl
@[simp] theorem linePeriod_fixed : (linePeriod s).fixed = s.fixed := by
  unfold linePeriod; (repeat' first | dsimp only | split) <;> (try simp) <;> rfl

/-! ### Planner and meter -/

@[simp] theorem openDay_fixed (d o) : (openDay d o s).fixed = s.fixed := by
  unfold openDay; (repeat' first | dsimp only | split) <;> (try simp) <;> rfl
@[simp] theorem midnight_fixed (d) : (midnight d s).fixed = s.fixed := by
  unfold midnight; (repeat' first | dsimp only | split) <;> (try simp) <;> rfl
@[simp] theorem clockAdjusted_fixed (d) : (clockAdjusted d s).fixed = s.fixed := by
  unfold clockAdjusted; (repeat' first | dsimp only | split) <;> (try simp) <;> rfl
@[simp] theorem discardAllowance_fixed : (discardAllowance s).fixed = s.fixed := by
  unfold discardAllowance; (repeat' first | dsimp only | split) <;> (try simp) <;> rfl
@[simp] theorem setAllowance_fixed : (setAllowance s).fixed = s.fixed := by
  unfold setAllowance; (repeat' first | dsimp only | split) <;> (try simp) <;> rfl
@[simp] theorem allowanceSpent_fixed : (allowanceSpent s).fixed = s.fixed := by
  unfold allowanceSpent; (repeat' first | dsimp only | split) <;> (try simp) <;> rfl
@[simp] theorem noticePlan_fixed (p) : (noticePlan p s).fixed = s.fixed := by
  unfold noticePlan; (repeat' first | dsimp only | split) <;> (try simp) <;> rfl
@[simp] theorem handDemand_fixed (p) : (handDemand p s).fixed = s.fixed := by
  unfold handDemand; (repeat' first | dsimp only | split) <;> (try simp) <;> rfl
@[simp] theorem makePlan_fixed (x c) : (makePlan x c s).fixed = s.fixed := by
  unfold makePlan; (repeat' first | dsimp only | split) <;> (try simp) <;> rfl
@[simp] theorem plannerMinute_fixed : (plannerMinute s).fixed = s.fixed := by
  unfold plannerMinute; (repeat' first | dsimp only | split) <;> (try simp) <;> rfl
@[simp] theorem cancelStart_fixed : (cancelStart s).fixed = s.fixed := by
  unfold cancelStart; (repeat' first | dsimp only | split) <;> (try simp) <;> rfl
@[simp] theorem plannerBand_fixed (x o n c) : (plannerBand x o n c s).fixed = s.fixed := by
  unfold plannerBand; (repeat' first | dsimp only | split) <;> (try simp) <;> rfl
@[simp] theorem forgetRate_fixed : (forgetRate s).fixed = s.fixed := by
  unfold forgetRate; (repeat' first | dsimp only | split) <;> (try simp) <;> rfl
@[simp] theorem plannerStall_fixed : (plannerStall s).fixed = s.fixed := by
  unfold plannerStall; (repeat' first | dsimp only | split) <;> (try simp) <;> rfl
@[simp] theorem stallPulse_fixed : (stallPulse s).fixed = s.fixed := by
  unfold stallPulse; (repeat' first | dsimp only | split) <;> (try simp) <;> rfl
@[simp] theorem countPulse_fixed : (countPulse s).fixed = s.fixed := rfl
@[simp] theorem countPulse_ifm : (countPulse s).ifm = s.ifm.pulse s.cfg.valve.litresPerPulse := rfl
@[simp] theorem countPulse_ofg : (countPulse s).ofg = s.ofg.pulse s.cfg.valve.litresPerPulse := rfl
@[simp] theorem countPulse_fpl : (countPulse s).fpl = s.fpl.pulse s.cfg.valve.litresPerPulse s.topupRuns := rfl
@[simp] theorem countPulse_fsq : (countPulse s).fsq = s.fsq := rfl
@[simp] theorem takePulse_fixed (x y b) : (takePulse x y b s).fixed = s.fixed := by
  unfold takePulse; (repeat' first | dsimp only | split) <;> (try simp) <;> rfl
@[simp] theorem meterPulse_fixed : (meterPulse s).fixed = s.fixed := by
  unfold meterPulse; rw [handTo_fixed _ _ _ fun b t => takePulse_fixed t _ _ b]; rfl
@[simp] theorem takeStall_fixed (b) : (takeStall b s).fixed = s.fixed := by
  unfold takeStall; (repeat' first | dsimp only | split) <;> (try simp) <;> rfl
@[simp] theorem setStall_fixed : (setStall s).fixed = s.fixed := by
  unfold setStall; split
  · rfl
  · rw [handTo_fixed _ _ _ fun b t => takeStall_fixed t b]; rfl
@[simp] theorem stallExpiry_fixed : (stallExpiry s).fixed = s.fixed := by
  unfold stallExpiry; (repeat' first | dsimp only | split) <;> (try simp) <;> rfl

/-! ### Clock hand-overs and recorder -/

@[simp] theorem takeBand_fixed (x o n c b) : (takeBand x o n c b s).fixed = s.fixed := by
  unfold takeBand; (repeat' first | dsimp only | split) <;> (try simp) <;> rfl
@[simp] theorem takeMinute_fixed (b) : (takeMinute b s).fixed = s.fixed := by
  unfold takeMinute; (repeat' first | dsimp only | split) <;> (try simp) <;> rfl
@[simp] theorem judgeWatermark_fixed : (judgeWatermark s).fixed = s.fixed := by
  unfold judgeWatermark; (repeat' first | dsimp only | split) <;> (try simp) <;> rfl
@[simp] theorem buildHistory_fixed : (buildHistory s).fixed = s.fixed := by
  unfold buildHistory; (repeat' first | dsimp only | split) <;> (try simp) <;> rfl
@[simp] theorem recorderSample_fixed : (recorderSample s).fixed = s.fixed := by
  unfold recorderSample; (repeat' first | dsimp only | split) <;> (try simp) <;> rfl
@[simp] theorem collectExpiry_fixed : (collectExpiry s).fixed = s.fixed := by
  unfold collectExpiry; (repeat' first | dsimp only | split) <;> (try simp) <;> rfl

end

end Sys2Proof.Machine
end

