-- ==== Sys2Proof/Laws/Ops.lean ====
section
/-! SUPPORT. The shared operations, once each: hand-overs in a free order, rings, notices and the arbiter, the tables of zones, readings and
demand rows, valve commands, and the grant of a run. -/
namespace Sys2Proof.Machine

/-! ### The order of hand-overs -/

theorem insertBy_perm {α : Type} (key : α → Nat) (x : α) (l : List α) : (insertBy key x l).Perm (x :: l) := by
  induction l with
  | nil => exact List.Perm.refl _
  | cons y ys ih =>
    rw [insertBy]
    split
    · exact List.Perm.refl _
    · exact (ih.cons y).trans (List.Perm.swap x y ys)

theorem sortBy_perm {α : Type} (key : α → Nat) (l : List α) : (sortBy key l).Perm l := by
  induction l with
  | nil => exact List.Perm.refl _
  | cons x xs ih => exact (insertBy_perm key x _).trans (ih.cons x)

/-- Whatever the order in force, each receiver stands in it as often as it is listed. -/
theorem inOrder_perm (s : State) (receivers : List Block) : (s.inOrder receivers).Perm receivers := sortBy_perm _ _

theorem mem_inOrder (s : State) (receivers : List Block) (b : Block) : b ∈ s.inOrder receivers ↔ b ∈ receivers :=
  (inOrder_perm s receivers).mem_iff

/-- A property that every receiver keeps holds after the hand-over. -/
theorem handTo_keeps (P : State → Prop) (s : State) (receivers : List Block) (take : Block → State → State) (hs : P s)
    (h : ∀ b ∈ receivers, ∀ t, P t → P (take b t)) : P (s.handTo receivers take) := by
  have key : ∀ (l : List Block) (t : State), (∀ b ∈ l, b ∈ receivers) → P t → P (l.foldl (fun t b => take b t) t) := by
    intro l
    induction l with
    | nil => intro t _ ht; exact ht
    | cons b l ih =>
      intro t hl ht
      exact ih _ (fun c hc => hl c (List.mem_cons_of_mem _ hc)) (h b (hl b List.mem_cons_self) t ht)
  exact key _ s (fun b hb => (mem_inOrder s receivers b).1 hb) hs

/-- A part of the state that no receiver changes stays as it was. -/
theorem handTo_frame {α : Type} (f : State → α) (s : State) (receivers : List Block) (take : Block → State → State)
    (h : ∀ b ∈ receivers, ∀ t, f (take b t) = f t) : f (s.handTo receivers take) = f s :=
  handTo_keeps (fun t => f t = f s) s receivers take rfl fun b hb t ht => (h b hb t).trans ht

/-- What one receiver brings about, from a property that all keep, holds after the hand-over, whatever the order. -/
theorem handTo_reaches (P Q : State → Prop) (s : State) (receivers : List Block) (take : Block → State → State) (c : Block)
    (hc : c ∈ receivers) (hs : P s) (hP : ∀ b ∈ receivers, ∀ t, P t → P (take b t)) (hQ : ∀ t, P t → Q (take c t))
    (hkeep : ∀ b ∈ receivers, ∀ t, P t → Q t → Q (take b t)) : Q (s.handTo receivers take) := by
  have key : ∀ (l : List Block) (t : State), (∀ b ∈ l, b ∈ receivers) → P t → (c ∈ l ∨ Q t) →
      Q (l.foldl (fun t b => take b t) t) := by
    intro l
    induction l with
    | nil => intro t _ _ h; exact h.resolve_left (by simp)
    | cons b l ih =>
      intro t hl ht h
      have hb := hl b List.mem_cons_self
      refine ih _ (fun d hd => hl d (List.mem_cons_of_mem _ hd)) (hP b hb t ht) ?_
      by_cases hcl : c ∈ l
      · exact Or.inl hcl
      · rcases h with h | h
        · rcases List.mem_cons.1 h with rfl | h
          · exact Or.inr (hQ t ht)
          · exact absurd h hcl
        · exact Or.inr (hkeep b hb t ht h)
  exact key _ s (fun b hb => (mem_inOrder s receivers b).1 hb) hs (Or.inl ((mem_inOrder s receivers c).2 hc))

/-- A hand-over of which no receiver does anything changes nothing. -/
theorem handTo_idle (P : State → Prop) (s : State) (receivers : List Block) (take : Block → State → State) (hs : P s)
    (h : ∀ b ∈ receivers, ∀ t, P t → take b t = t) : s.handTo receivers take = s := by
  have := handTo_keeps (fun t => t = s) s receivers take rfl fun b hb t ht => by subst ht; exact h b hb t hs
  exact this

/-- A hand-over of which one receiver acts, and the others do nothing before it or after it, is that receiver's taking. -/
theorem handTo_only (P : State → Prop) (s : State) (receivers : List Block) (take : Block → State → State) (c : Block)
    (hc : c ∈ receivers) (hd : receivers.Nodup) (hs : P s) (hP : P (take c s))
    (h : ∀ b ∈ receivers, b ≠ c → ∀ t, P t → take b t = t) : s.handTo receivers take = take c s := by
  have hnd : (s.inOrder receivers).Nodup := (inOrder_perm s receivers).nodup_iff.2 hd
  have hmem := (mem_inOrder s receivers c).2 hc
  have idle : ∀ (l : List Block) (t : State), P t → (∀ b ∈ l, b ∈ receivers ∧ b ≠ c) → l.foldl (fun t b => take b t) t = t := by
    intro l
    induction l with
    | nil => intro t _ _; rfl
    | cons b l ih =>
      intro t ht hl
      have hb := hl b List.mem_cons_self
      rw [List.foldl_cons, h b hb.1 hb.2 t ht]
      exact ih t ht fun d hd => hl d (List.mem_cons_of_mem _ hd)
  obtain ⟨l₁, l₂, hl⟩ := List.append_of_mem hmem
  have hsub : ∀ b ∈ s.inOrder receivers, b ∈ receivers := fun b hb => (mem_inOrder s receivers b).1 hb
  rw [State.handTo, hl, List.foldl_append, List.foldl_cons]
  rw [hl] at hnd hsub
  have hn := List.nodup_append.1 hnd
  have h2 := (List.nodup_cons.1 hn.2.1).1
  rw [idle l₁ s hs fun b hb => ⟨hsub b (by simp [hb]), fun e => hn.2.2 b hb c (by simp) e⟩]
  exact idle l₂ _ hP fun b hb => ⟨hsub b (by simp [hb]), fun e => h2 (e ▸ hb)⟩

/-! ### Rings -/

theorem push_length_le {α : Type} (cap : Nat) (ring : List α) (x : α) : (push cap ring x).length ≤ cap := by
  rw [push, List.length_drop, List.length_append]; simp; omega

theorem push_of_room {α : Type} (cap : Nat) (ring : List α) (x : α) (h : ring.length < cap) : push cap ring x = ring ++ [x] := by
  rw [push, show ring.length + 1 - cap = 0 by omega, List.drop_zero]

theorem push_of_full {α : Type} (ring : List α) (x : α) (h : ring ≠ []) : push ring.length ring x = ring.drop 1 ++ [x] := by
  cases ring with
  | nil => exact absurd rfl h
  | cons y ys => simp [push]

/-! ### Notices and the arbiter -/

/-- The arbiter takes a notice from the queue, or leaves the queue, and never adds one. -/
theorem arbitrate_notices_length (v : Svp) : v.arbitrate.notices.length ≤ v.notices.length := by
  unfold Svp.arbitrate
  split
  · exact Nat.le_refl _
  · split
    · exact Nat.le_refl _
    · split <;> simp_all

@[simp] theorem arbitrate_reply (v : Svp) : v.arbitrate.reply = v.reply := by
  unfold Svp.arbitrate; (repeat' split) <;> rfl
@[simp] theorem arbitrate_busy (v : Svp) : v.arbitrate.busy = v.busy := by
  unfold Svp.arbitrate; (repeat' split) <;> rfl
@[simp] theorem arbitrate_queue (v : Svp) : v.arbitrate.queue = v.queue := by
  unfold Svp.arbitrate; (repeat' split) <;> rfl
@[simp] theorem arbitrate_formed (v : Svp) : v.arbitrate.formed = v.formed := by
  unfold Svp.arbitrate; (repeat' split) <;> rfl
@[simp] theorem arbitrate_mask (v : Svp) : v.arbitrate.mask = v.mask := by
  unfold Svp.arbitrate; (repeat' split) <;> rfl
@[simp] theorem arbitrate_rx (v : Svp) : v.arbitrate.rx = v.rx := by
  unfold Svp.arbitrate; (repeat' split) <;> rfl

/-- With a reply or a refusal waiting and the line idle, the arbiter sends one of them. -/
theorem arbitrate_busy_line (v : Svp) (h : v.tx.isSome = true) : v.arbitrate = v := by
  unfold Svp.arbitrate; split
  · rfl
  · simp_all

/-- R187: the notice queue keeps its bound. -/
theorem takeNotice_bound (v : Svp) (n : Notice) (h : v.notices.length ≤ 16) : (v.takeNotice n).notices.length ≤ 16 := by
  unfold Svp.takeNotice
  split
  · split
    · exact Nat.le_trans (arbitrate_notices_length _) (by simp; omega)
    · exact h
  · exact h

@[simp] theorem takeNotice_reply (v : Svp) (n) : (v.takeNotice n).reply = v.reply := by
  unfold Svp.takeNotice; (repeat' split) <;> simp
@[simp] theorem takeNotice_busy (v : Svp) (n) : (v.takeNotice n).busy = v.busy := by
  unfold Svp.takeNotice; (repeat' split) <;> simp
@[simp] theorem takeNotice_queue (v : Svp) (n) : (v.takeNotice n).queue = v.queue := by
  unfold Svp.takeNotice; (repeat' split) <;> simp
@[simp] theorem takeNotice_formed (v : Svp) (n) : (v.takeNotice n).formed = v.formed := by
  unfold Svp.takeNotice; (repeat' split) <;> simp
@[simp] theorem takeNotice_mask (v : Svp) (n) : (v.takeNotice n).mask = v.mask := by
  unfold Svp.takeNotice; (repeat' split) <;> simp
@[simp] theorem takeNotice_rx (v : Svp) (n) : (v.takeNotice n).rx = v.rx := by
  unfold Svp.takeNotice; (repeat' split) <;> simp

section
variable (s : State) (c : NoticeClass) (fs : List Word)

@[simp] theorem raise_lmu : (s.raise c fs).lmu = s.lmu := rfl
@[simp] theorem raise_ofg : (s.raise c fs).ofg = s.ofg := rfl
@[simp] theorem raise_ivd : (s.raise c fs).ivd = s.ivd := rfl
@[simp] theorem raise_ifm : (s.raise c fs).ifm = s.ifm := rfl
@[simp] theorem raise_tck : (s.raise c fs).tck = s.tck := rfl
@[simp] theorem raise_fpl : (s.raise c fs).fpl = s.fpl := rfl
@[simp] theorem raise_fsq : (s.raise c fs).fsq = s.fsq := rfl
@[simp] theorem raise_sli : (s.raise c fs).sli = s.sli := rfl
@[simp] theorem raise_fhc : (s.raise c fs).fhc = s.fhc := rfl
@[simp] theorem raise_trc : (s.raise c fs).trc = s.trc := rfl
@[simp] theorem raise_sst : (s.raise c fs).sst = s.sst := rfl
@[simp] theorem raise_pending : (s.raise c fs).pending = s.pending := rfl
@[simp] theorem raise_order : (s.raise c fs).order = s.order := rfl
@[simp] theorem raise_draws : (s.raise c fs).draws = s.draws := rfl
@[simp] theorem raise_svp : (s.raise c fs).svp = s.svp.takeNotice ⟨c, s.now, fs⟩ := rfl

end

/-! ### Tables -/

@[simp] theorem Zones.get_put_same {α : Type} (t : Zones α) (z : Zone) (x : α) : (t.put z x).get z = x := by cases z <;> rfl

theorem Zones.get_put_ne {α : Type} (t : Zones α) (z y : Zone) (x : α) (h : y ≠ z) : (t.put z x).get y = t.get y := by
  cases z <;> cases y <;> first | rfl | exact absurd rfl h

@[simp] theorem Zones.get_map {α β : Type} (t : Zones α) (f : Zone → α → β) (z : Zone) : (t.map f).get z = f z (t.get z) := by
  cases z <;> rfl

@[simp] theorem Temps.get_put_same (t : Temps) (p : TempPort) (r : TempRecord) : (t.put p r).get p = r := by cases p <;> rfl

theorem Temps.get_put_ne (t : Temps) (p q : TempPort) (r : TempRecord) (h : q ≠ p) : (t.put p r).get q = t.get q := by
  cases p <;> cases q <;> first | rfl | exact absurd rfl h

@[simp] theorem DemandTable.row_setRow_same (t : DemandTable) (k : Kind) (r : Row) : (t.setRow k r).row k = r := by cases k <;> rfl

theorem DemandTable.row_setRow_ne (t : DemandTable) (k j : Kind) (r : Row) (h : j ≠ k) : (t.setRow k r).row j = t.row j := by
  cases k <;> cases j <;> first | rfl | exact absurd rfl h

theorem mem_allZones (z : Zone) : z ∈ allZones := by cases z <;> decide

theorem mem_allKinds (k : Kind) : k ∈ Kind.all := by cases k <;> decide

@[simp] theorem zoneOf_zoneNumber (z : Zone) : zoneOf (zoneNumber z) = z := by cases z <;> rfl

/-! ### Valve commands -/

/-- R56: an open command writes the driver's record and nothing else. -/
theorem valveOpen_writes (s : State) : (valveOpen s).2.1 = s.withIvd (valveOpen s).2.1.ivd := by
  unfold valveOpen
  dsimp only
  (repeat' split) <;> rfl

/-- R56: a refused open command changes nothing and hands nothing over. -/
theorem valveOpen_refused (s : State) (h : (valveOpen s).1.isSome = true) : (valveOpen s).2 = (s, []) := by
  unfold valveOpen at h ⊢
  dsimp only at h ⊢
  (repeat' split at h) <;> simp_all

/-- R57: a close command writes the driver's record and may raise a notice, and does nothing else. -/
theorem valveClose_writes (s : State) :
    (valveClose s).1 = (s.withIvd (valveClose s).1.ivd).withSvp (valveClose s).1.svp := by
  unfold valveClose
  dsimp only
  (repeat' split) <;> rfl

/-- R57: a close command leaves the force-close flag and the fault record. -/
theorem valveClose_keeps (s : State) :
    (valveClose s).1.ivd.forceClose = s.ivd.forceClose ∧ (valveClose s).1.ivd.faults = s.ivd.faults ∧
      (valveClose s).1.ivd.pattern = s.ivd.pattern := by
  unfold valveClose
  dsimp only
  (repeat' split) <;> exact ⟨rfl, rfl, rfl⟩

/-! ### The grant of a run (R158) -/

/-- The zones granted from a budget draw at most that budget, and what is left is the rest. -/
theorem grantFrom_sum (power : Zone → Nat) (zs : List Zone) (left : Nat) :
    ((grantFrom power zs left).1.map power).sum + (grantFrom power zs left).2 = left := by
  induction zs generalizing left with
  | nil => simp [grantFrom]
  | cons z zs ih =>
    unfold grantFrom
    split
    · rename_i h
      have := ih (left - power z)
      simp only [List.map_cons, List.sum_cons]
      omega
    · exact ih left

/-- Only zones that were asked for are granted. -/
theorem grantFrom_subset (power : Zone → Nat) (zs : List Zone) (left : Nat) (z : Zone) (h : z ∈ (grantFrom power zs left).1) :
    z ∈ zs := by
  induction zs generalizing left with
  | nil => simp [grantFrom] at h
  | cons y zs ih =>
    unfold grantFrom at h
    split at h
    · rcases List.mem_cons.1 h with rfl | h
      · exact List.mem_cons_self
      · exact List.mem_cons_of_mem _ (ih _ h)
    · exact List.mem_cons_of_mem _ (ih _ h)

/-- The first zone asked for is granted exactly when its power fits. -/
theorem grantFrom_head (power : Zone → Nat) (z : Zone) (zs : List Zone) (left : Nat) (h : power z ≤ left) :
    z ∈ (grantFrom power (z :: zs) left).1 := by
  unfold grantFrom
  rw [if_pos h]
  exact List.mem_cons_self

/-- Every zone granted by a run is a candidate of it. -/
theorem grant_subset (s : State) (z : Zone) (h : z ∈ s.grant) : z ∈ s.candidates := by
  unfold State.grant at h
  dsimp only at h
  rcases List.mem_append.1 h with h | h
  · have := (sortBy_perm _ _).mem_iff.1 (grantFrom_subset _ _ _ _ h)
    split at this
    · simp at this
    · exact (List.mem_filter.1 this).1
  · have := (sortBy_perm _ _).mem_iff.1 (grantFrom_subset _ _ _ _ h)
    exact (List.mem_filter.1 this).1

/-- R158, step 1: the candidates of a run. -/
theorem mem_candidates (s : State) (z : Zone) : z ∈ s.candidates ↔
    s.heatCut = false ∧ (s.cfg.zones.get z).enabled = true ∧ (s.fhc.zones.get z).need = true ∧
      (s.fhc.zones.get z).state ≠ .fault := by
  unfold State.candidates
  split <;> simp_all [mem_allZones, and_assoc]

/-- A run writes the zones and the previous budget, and nothing else. -/
theorem powerRun_writes (s : State) : ∃ zs b, powerRun s = s.withFhc { s.fhc with zones := zs, lastBudget := b } := by
  unfold powerRun
  split
  · exact ⟨s.fhc.zones, s.fhc.lastBudget, rfl⟩
  · exact ⟨_, _, rfl⟩

end Sys2Proof.Machine
end

