-- ==== Sys2Proof/Laws/Service.lean ====
section
/-! SUPPORT. The Service Port: what a request that is served at once comes to, and the fields of a body read back as they were written. -/
namespace Sys2Proof.Machine

/-! ### Fields of a body -/

@[simp] theorem wordBytes_length (w : Word) : (wordBytes w).length = 4 := rfl

@[simp] theorem fieldBytes_length (fs : List Word) : (fieldBytes fs).length = 4 * fs.length := by
  induction fs with
  | nil => rfl
  | cons w fs ih => simp only [fieldBytes, List.flatMap_cons, List.length_append, wordBytes_length, List.length_cons] at *; omega

/-- The four bytes of a word put together again. -/
theorem word_of_bytes (w : Word) :
    (w.extractLsb' 24 8 ++ w.extractLsb' 16 8 ++ w.extractLsb' 8 8 ++ w.extractLsb' 0 8 : BitVec 32) = w := by
  apply BitVec.eq_of_getLsbD_eq
  intro i hi
  simp only [BitVec.getLsbD_append, BitVec.getLsbD_extractLsb', Nat.zero_add]
  by_cases h1 : i < 8
  · simp [h1]
  · by_cases h2 : i - 8 < 8
    · simp [h1, h2, show 8 + (i - 8) = i by omega]
    · by_cases h3 : i - 8 - 8 < 8
      · simp [h1, h2, h3, show 16 + (i - 8 - 8) = i by omega]
      · simp [h1, h2, h3, show i - 8 - 8 - 8 < 8 by omega, show 24 + (i - 8 - 8 - 8) = i by omega]

/-- The fields of a body are read as they were written. -/
@[simp] theorem bytesFields_fieldBytes (fs : List Word) : bytesFields (fieldBytes fs) = fs := by
  induction fs with
  | nil => rfl
  | cons w fs ih =>
    show (w.extractLsb' 24 8 ++ w.extractLsb' 16 8 ++ w.extractLsb' 8 8 ++ w.extractLsb' 0 8 : BitVec 32) ::
      bytesFields (fieldBytes fs) = w :: fs
    rw [word_of_bytes, ih]

theorem toInt_numField (n : Nat) (h : n < 2147483648) : (numField n).toInt = n := by
  rw [numField, BitVec.toInt_eq_toNat_cond, BitVec.toNat_ofNat]; split <;> omega

theorem toInt_intField (i : Int) (h1 : -2147483648 ≤ i) (h2 : i < 2147483648) : (intField i).toInt = i := by
  rw [intField, BitVec.toInt_ofInt, Int.bmod_def]; split <;> omega

/-! ### Serving (R184, R185) -/

section
variable (s : State)

theorem placeReply_accept (r : Request) (body : List Byte) :
    placeReply r (.accept body) s = s.answered (r.kind ||| 0x80) r.tag body := rfl

theorem placeReply_refuse (r : Request) (reason : Reason) (detail : List Byte) :
    placeReply r (.refuse reason detail) s = s.refused r.tag r.kind reason.code detail := rfl

/-- A request that finds the reply slot and the queue empty is judged by its owner, and the answer is its reply. -/
theorem placeRequest_free (r : Request) (h : s.free) :
    placeRequest r s = placeReply r (judgeRequest r s).1 (judgeRequest r s).2 := by
  simp [placeRequest, h.1, h.2, serve]

/-- A request of known kind and fitting length, with no commit in flight or none to wait for, goes to its owner with its fields. -/
theorem judgeRequest_owner (kind tag : Byte) (fs : List Word) (form : BodyForm) (hk : bodyForm kind = some form)
    (hl : form.allows (4 * fs.length) = true) (hc : (waitsForCommit kind && s.sst.writing.isSome) = false) :
    judgeRequest ⟨kind, tag, fieldBytes fs⟩ s = owner kind (4 * fs.length) fs s := by
  simp [judgeRequest, hk, hl, hc]

@[simp] theorem drawOrder_free : s.drawOrder.free ↔ s.free := by simp [State.drawOrder, State.free]
@[simp] theorem drawOrder_cfg : s.drawOrder.cfg = s.cfg := by simp [State.drawOrder, State.cfg]
@[simp] theorem drawOrder_now : s.drawOrder.now = s.now := by simp [State.drawOrder, State.now]
@[simp] theorem drawOrder_sst : s.drawOrder.sst = s.sst := by simp [State.drawOrder]
@[simp] theorem drawOrder_svp : s.drawOrder.svp = s.svp := by simp [State.drawOrder]

theorem arbitrate_slots (v : Svp) : v.arbitrate.reply = v.reply ∧ v.arbitrate.busy = v.busy ∧ v.arbitrate.queue = v.queue ∧
    v.arbitrate.formed = v.formed ∧ v.arbitrate.mask = v.mask ∧ v.arbitrate.rx = v.rx ∧
    v.arbitrate.notices.length ≤ v.notices.length := by
  unfold Svp.arbitrate
  repeat' split
  all_goals simp_all

theorem answered_replied (kind tag : Byte) (body : List Byte) : (s.answered kind tag body).replied kind tag body :=
  ⟨s.svp.formed, (arbitrate_slots _).1⟩

/-- A reply changes the Service Port only. -/
theorem answered_rest (kind tag : Byte) (body : List Byte) : (s.answered kind tag body).withSvp s.svp = s := rfl

end

end Sys2Proof.Machine
end

