-- ==== Sys2Proof/WellFormed.lean ====
section
/-! DEFINITION. Which commands can occur: the ranges that the manual gives the operands of an event, and the longest body of a frame. A
field of a request is well-formed at every value, since an out-of-range field is refused by its owner and not by the line. -/
namespace Sys2Proof

/-- A body of whole fields within the 200 bytes of a frame (section 10.7). -/
def fieldsFit (fields : List Word) : Bool := decide (fields.length ≤ 50)

/-- The ranges: a count of R1, a body of R182, and the values that would make a request another row's: the cancel form of FILL_NOW
(R108) and the valve's 0 of FAULT_CLEAR (R64). -/
def Instr.wf : Instr → Bool
  | .headSensorArrival count => decide (count ≤ 4095)
  | .serviceFrame _ _ body _ => decide (body.length ≤ 200)
  | .sensorSet _ fields | .strapSet _ fields | .guardSet _ fields | .valveSet _ fields | .lineSet _ fields
  | .tariffSet _ fields | .planSet _ fields | .heatSet _ fields | .zoneSet _ fields | .historySet _ fields => fieldsFit fields
  | .fillNow _ level => decide (level ≠ 0x80000000#32)
  | .faultClearZone _ zone => decide (zone ≠ 0)
  | _ => true

end Sys2Proof
end

