-- ==== Sys2Proof/Tests/Slice0.lean ====
section
/-! SUPPORT. The model's own tests: ill-formed commands are refused, the figures that the manual works out come out, small steps do what their
rules say, and the hypotheses of each obligation are met together by a concrete state. -/
namespace Sys2Proof.Tests
set_option Elab.async false
open Sys2Proof.Machine

/-! ### Well-formedness: one ill-formed term for each check -/

theorem test_wf_count : (Instr.headSensorArrival 4095).wf = true ∧ (Instr.headSensorArrival 4096).wf = false := by decide

theorem test_wf_body : (Instr.serviceFrame 1 0 (List.replicate 200 0) 0).wf = true ∧
    (Instr.serviceFrame 1 0 (List.replicate 201 0) 0).wf = false := by decide +kernel

theorem test_wf_fields : (Instr.strapSet 0 (List.replicate 50 0)).wf = true ∧ (Instr.strapSet 0 (List.replicate 51 0)).wf = false := by
  decide +kernel

theorem test_wf_level : (Instr.fillNow 0 20001).wf = true ∧ (Instr.fillNow 0 0x80000000).wf = false := by decide

theorem test_wf_zone : (Instr.faultClearZone 0 4).wf = true ∧ (Instr.faultClearZone 0 0).wf = false := by decide

/-! ### The manual's worked figures -/

/-- Section 1.6, conversions, with the default settings of the LMU. -/
theorem test_head_levels : headLevel {} 2458 = some 6003 ∧ headLevel {} 790 = some 0 ∧ headLevel {} 770 = none := by decide

theorem test_range_levels : rangeLevel {} 6480 = some 6020 ∧ rangeLevel {} 250 = none ∧ rangeLevel {} 13000 = some 0 := by decide

/-- Section 1.6, smoothing and rate. -/
theorem test_smoothing : smoothStep 3 95840 6003 = 95866 ∧ smoothStep 3 95866 5980 = 95842 := by decide

theorem test_rate : rateOf {} [5975, 0, 0, 0, 0, 0, 0, 0, 5991] = some 60 ∧
    rateOf { samplePeriodS := 5 } [5991, 0, 0, 0, 0, 0, 0, 0, 5984] = some (-10) := by decide

/-- The strapping table of section 1.7. -/
def table : List StrapPoint := [⟨0, 0⟩, ⟨2000, 60000⟩, ⟨4000, 160000⟩, ⟨10000, 460000⟩, ⟨11000, 510000⟩]

theorem test_volumes : volumeAt table 10650 = some 492500 ∧ volumeAt table 11600 = some 510000 ∧ levelAt table 100000 = some 2800 ∧
    levelAt table 600000 = some 11000 := by decide

theorem test_flat_run : levelAt [⟨2000, 60000⟩, ⟨3000, 100000⟩, ⟨3200, 100000⟩] 100000 = some 3000 ∧
    volumeAt [⟨2000, 60000⟩, ⟨3000, 100000⟩, ⟨3200, 100000⟩] 3100 = some 100000 := by decide

/-- The calendar of section 4.6. -/
def calendar : List Window := [⟨1380, 420, 31, .cheap⟩, ⟨1320, 540, 96, .cheap⟩, ⟨1020, 180, 31, .peak⟩]

theorem test_bands : bandAt calendar 10050 = .cheap ∧ bandAt calendar 419 = .cheap ∧ bandAt calendar 420 = .standard ∧
    bandAt calendar 1020 = .peak ∧ bandAt calendar 7559 = .cheap ∧ bandAt calendar 7560 = .standard := by decide

theorem test_run_remaining : runRemaining calendar 10050 = 450 := by decide +kernel

/-- Section 4.6: a fourth window is refused with windows 1 and 3 named. -/
theorem test_shared_minute : sharedMinute 0 calendar = none ∧ sharedMinute 0 (calendar ++ [⟨360, 120, 1, .peak⟩]) = some (1, 3) := by
  decide +kernel

/-- The day ring of section 5.7. -/
def closedDay (inflow draw vStart vEnd : Nat) : ClosedDay :=
  ⟨{ day := some 1, openedBy := .midnight, vStart := some vStart, partialDay := false }, some vEnd, inflow, some draw⟩

def ring : List ClosedDay :=
  [closedDay 218300 212400 188400 194300, closedDay 205400 198700 194300 201000, closedDay 200300 205100 201000 196200,
   closedDay 214400 220900 196200 189700, closedDay 198000 190300 189700 197400, closedDay 198000 201600 197400 193800,
   closedDay 204200 209800 193800 188200]

theorem test_draws : drawOf 218300 (some 188400) (some 194300) = some 212400 ∧
    drawOf 200300 (some 201000) (some 196200) = some 205100 := by decide

theorem test_forecast : forecast {} ring = ⟨7, 1438800, 226098⟩ := by decide

/-- A sample with sight by sensor A alone. -/
def sight : SampleRecord where
  healthA := .good
  levelA := some 4620
  active := some .a
  activeLevel := some 4620
  smoothed := some 4620
  guardLevel := some 4620
  smoothedVolume := some 191000
  guardVolume := some 191000
  planningVolume := some 191000

/-- A configured part with the table and the calendar in force, sight by sensor A, the path PROVEN, a guard that is CLEAR, and nothing
running. Tuesday 23:00:00 of section 5.7. -/
def part : State :=
  { lmu := { sample := sight }
    ofg := { state := .clear, blindFlag := false, ceilingMm := 10100, ceilingVolume := some 465000, granted := true }
    tck := { time := some ⟨1, 82800⟩, uptime := 5000, band := .cheap }
    fpl := { ring := ring, learned := some 520 }
    fhc := { season := .out, pathProven := true, startHold := false, startTimer := none }
    sst := { working := { strap := table, calendar := calendar }, part := .running } }

/-- Section 5.7: the plan at Tuesday 23:00. -/
theorem test_plan : (part.newPlan sight .advance).figures = some
    ⟨191000, 210000, 465000, 420, 520, 7, 1438800, 226098, 436098, 436098, some 9521, 245098, 218400, 218400, 26698, 420⟩ ∧
    (part.newPlan sight .advance).startState = .raised := by decide +kernel

theorem test_learned_rate : learnRate (some 512) (20672 / 38) = 520 := by decide

/-- Section 8.10: the grant with a budget of 9000 W, and at the fall to 5000 W. -/
def cold (band : Band) (last : Option Nat) : State :=
  part.withFhc { part.fhc with
    season := .inSeason, lastBudget := last
    zones := ⟨{ need := true }, { need := true }, { need := true }, { need := true, boost := true }⟩ }
    |>.withTck { part.tck with band := band }

theorem test_grant : (cold .cheap none).grant = [.sensor, .riser, .overflow] ∧
    (cold .standard (some 9000)).grant = [.sensor, .overflow] := by decide

/-- Section 7.1: the check of address 7 with code HOLD, and the frame with its stuffed zeros. -/
theorem test_line_frame : lineCheck 7 2 = 0xAA#8 ∧ (lineFrame 7 2).length = 31 := by decide +kernel

/-- The CRC-16 of the nine characters "123456789" with this polynomial and start value. -/
theorem test_crc16 : crc16 [0x31, 0x32, 0x33, 0x34, 0x35, 0x36, 0x37, 0x38, 0x39] = 0x29B1#16 := by decide +kernel

/-! ### The start -/

theorem test_reset_is_power_on : powerOn .closedOnly .released ({} : State) = State.reset := by decide +kernel

theorem test_reset_status : State.reset.statusBody.length = 55 ∧ State.reset.ivd.state = .closed ∧ State.reset.pending = [] := by decide

theorem test_no_word_decodes : decodeTableWord 8 0 = none ∧ State.reset.withFetchWord 8 0 = State.reset := by decide

/-- The state after a command, if the command goes on. -/
def after (c : Instr) (s : State) : Option State :=
  match exec c s with
  | .next t => some t
  | _ => none

/-! ### Small steps: the operation of a command, or the command where it draws no order -/

theorem test_head_arrival : after (.headSensorArrival 2458) part =
    some (part.withLmu { part.lmu with a := { part.lmu.a with held := some ⟨2458, 5000⟩ } }) := by decide +kernel

theorem test_echo_lost : after (.rangeSensorArrival none) part = some part := by decide +kernel

/-- A sample with both sensors read gives both levels; both stay in warming. -/
theorem test_sample : let s := (part.withLmu { a := { held := some ⟨2458, 5000⟩ }, b := { held := some ⟨6480, 5000⟩ } })
    (sampleTaken s).lmu.sample.levelA = some 6003 ∧ (sampleTaken s).lmu.sample.levelB = some 6020 ∧
    (sampleTaken s).lmu.sample.healthA = .warming ∧ (sampleTaken s).ofg.state = .blind := by decide +kernel

/-- The night demand of the plan starts a fill that opens the valve at once. -/
theorem test_plan_starts_fill : let s := makePlan sight .advance part
    s.fsq.rows.night.active = true ∧ s.fsq.rows.night.target = 436098 ∧ s.fsq.seq = .opening ∧ s.ivd.state = .opening ∧
    s.ifm.fillTally = some 0 := by decide +kernel

/-- The same fill, with the open limit reached: it calls; with RUNNING accepted it fills. -/
def calling : State := limitChange .openOnly (limitChange .neither (makePlan sight .advance part))

theorem test_calling : calling.fsq.seq = .calling ∧ calling.sli.wishCall = true ∧ calling.sli.outgoing = .call ∧
    calling.fsq.callTimer = some ⟨5000, 120⟩ := by decide +kernel

def filling : State := acceptCode .running calling

theorem test_filling : filling.fsq.seq = .filling ∧ filling.ifm.armed = true ∧ filling.fsq.callTimer = none := by decide +kernel

theorem test_pulse : (meterPulse filling).ifm.fillTally = some 10 ∧ (meterPulse filling).ifm.dayPulses = 1 := by decide +kernel

/-- A trip during the fill closes the valve and latches the guard. -/
theorem test_trip : let s := trip .level none filling
    s.ofg.state = .tripped ∧ s.ivd.state = .closing ∧ s.ivd.forceClose = true ∧ s.sli.wishCall = false ∧ s.fsq.seq = .closing ∧
    s.fsq.fill.bind FillRecord.cause = some .guard := by decide +kernel

/-- A watchdog that expires on the close of a tripped guard isolates, and HOLD goes out. -/
theorem test_isolate : let s := watchdogExpired (trip .level none filling)
    s.ofg.state = .isolate ∧ s.sli.outgoing = .hold ∧ s.ivd.state = .fault .closeTimeout := by decide +kernel

theorem test_line_lost : let s := lineError .check (filling.withSli { filling.sli with counter := 248 })
    s.sli.state = .lost ∧ s.sli.accepted = none ∧ s.fsq.seq = .closing ∧ s.fsq.fill.bind FillRecord.cause = some .line := by
  decide +kernel

theorem test_line_period : after .linePeriodExpiry calling = some (calling.withSli { calling.sli with
    lastSent := some .call, lineOut := lineFrame 1 1, periodTimer := some ⟨5000, 1⟩ }) := by decide +kernel

theorem test_midnight : let s := advance (part.withTck { part.tck with time := some ⟨6, 86399⟩ })
    s.tck.time = some ⟨0, 0⟩ ∧ s.fpl.ring.length = 7 ∧ s.fpl.openDay.day = some 0 ∧ s.fpl.openDay.vStart = some 191000 := by
  decide +kernel

theorem test_season_entry : let s := seasonStep (part.withFhc { part.fhc with
      cold := 59, temps := { ambient := ⟨some (-21), 5000, some ⟨5000, 60⟩⟩ } })
    s.fhc.season = .inSeason ∧ s.fhc.pathProven = false ∧ s.ofg.ceilingMm = 9600 ∧ s.ofg.ceilingVolume = some 440000 := by
  decide +kernel

theorem test_status_get : after (.statusGet 9) part = some (part.answered 0x81 9 part.statusBody) := by decide +kernel

theorem test_line_stats : after (.lineStats 9) part = some
    ((part.withSli { part.sli with lastError := .noNew }).answered 0x90 9 (fieldBytes [0, 0, 0, 0, 0, absentField, 0, 255])) := by
  decide +kernel

theorem test_valve_set_range : after (.valveSet 9 [9, 3, 10, 60]) part = some (part.refused 9 0x0B 3 [0]) := by decide +kernel

theorem test_bad_length : after (.valveSet 9 [90, 3, 10]) part = some (part.refused 9 0x0B 2 []) := by decide +kernel

theorem test_busy_commit : let s := part.withSst { part.sst with writing := some {} }
    after (.valveSet 9 [9, 3, 10, 60]) s = some (s.refused 9 0x0B 5 [1]) := by decide +kernel

theorem test_history_flush : after (.historyFlush 9) part = some (part.answered 0xA2 9 []) := by decide +kernel

theorem test_notice_mask : after (.noticeMask 9 0x400000) part = some (part.refused 9 0x23 3 [0]) := by decide +kernel

theorem test_restart_without_image : after (.restart 9) part = some (part.refused 9 0x27 6 []) := by decide +kernel

theorem test_gap : let s := part.withSvp { part.svp with rx := .header [], gapRunning := true }
    after .gapTimerExpiry s = some (s.withSvp { s.svp with rx := .hunt, gapRunning := false, gapErrors := 1 }) := by decide +kernel

/-- R36: the exit from WARN leaves both counts at 0. -/
theorem test_warn_exit : let s := part.withOfg { part.ofg with state := .warn, warnCount := 3, exitCount := 10 };
    (warnStages s).ofg.state = .clear ∧ (warnStages s).ofg.warnCount = 0 ∧ (warnStages s).ofg.exitCount = 0 := by decide +kernel

/-- R56: the two refusals of an open command. -/
theorem test_open_refused : (valveOpen (part.withIvd { part.ivd with forceClose := true, state := .fault .passing })).1 = some .forceClose ∧
    (valveOpen (part.withIvd { part.ivd with state := .fault .openTimeout })).1 = some .fault ∧ (valveOpen part).1 = none := by
  decide +kernel

/-- R89: a plan without sight has no inputs, no results and no late slack, and its notice carries the flag alone. -/
theorem test_plan_without_sight :
    let s := part.withLmu { part.lmu with sample := { part.lmu.sample with active := none } };
    (s.newPlan s.lmu.sample .advance).figures = none ∧ (s.newPlan s.lmu.sample .advance).lateSlackMin = none ∧
      (makePlan s.lmu.sample .advance s).svp.tx.map TxFrame.body = some ([11, 0] ++ wordBytes 5000 ++ fieldBytes [0, 1]) := by decide +kernel

/-- R97: with the TOPUP row removed as reached, a pulse in RELEASING leaves the allowance as it is. -/
theorem test_pulse_in_releasing :
    let f : FillRecord := { start := 4000, kind := .topup, finalKind := .topup, mode := .called, targetStart := 300000, targetEnd := 300000 };
    let s := (part.withFpl { part.fpl with allowance := some 600 }).withFsq { part.fsq with seq := .releasing, fill := some f };
    s.topupRuns = false ∧ (meterPulse s).fpl.allowance = some 600 := by decide +kernel

/-- R66: the pulse that spends the blind budget ends a TOPUP fill in PREPARE and still counts against the allowance. -/
theorem test_pulse_reaches_all :
    let f : FillRecord := { start := 4000, kind := .topup, finalKind := .topup, mode := .called, targetStart := 300000, targetEnd := 300000 };
    let s := (((part.withFpl { part.fpl with allowance := some 600 }).withFsq { part.fsq with
        seq := .prepare, fill := some f, rows := { topup := { active := true, target := 300000 } } }).withOfg { part.ofg with
      state := .blind, blindFlag := true, budget := 10 }).withTck { part.tck with band := .standard };
    s.topupRuns = true ∧ (meterPulse s).fsq.seq = .idle ∧ (meterPulse s).ofg.budget = 0 ∧ (meterPulse s).fpl.allowance = some 590 := by
  decide +kernel

/-- R127: a RESTART inside CHEAP raises the NIGHT row again, though the level unit has no source after it. -/
theorem test_restart_plan :
    let t := restartEffect (part.withSst { part.sst with image := some ⟨part.cfg, 0⟩ });
    t.tck.band = .cheap ∧ t.lmu.sample.active = none ∧ t.fsq.rows.night.active = true ∧ t.fsq.rows.night.target = 436098 ∧
      t.fsq.seq = .idle := by decide +kernel

/-- R147: the rest of a burst that a restart found under way opens no hunt, and the next burst does. -/
theorem test_restart_in_burst :
    let s := restartEffect (part.withSli { part.sli with rx := .trailer (List.replicate 18 false) false [false] });
    s.sli.rx = .late ∧ (stationBit true s).sli.rx = .late ∧ (burstEnd s).sli.rx = .quiet ∧ (burstEnd s).sli.counter = 0 ∧
      (stationBit true (burstEnd s)).sli.rx = .hunting [true] := by decide +kernel

/-- R196 to R200: a change of part state carries the old and the new state; a restart also carries the image state. -/
theorem test_part_notices :
    (partNotice .running (part.withSst { part.sst with part := .quiescing })).svp.tx.map TxFrame.body =
      some ([18, 0] ++ wordBytes 5000 ++ fieldBytes [1, 2]) ∧
    (restartNotice .quiet (part.withSst { part.sst with imageValid := true })).svp.tx.map TxFrame.body =
      some ([18, 0] ++ wordBytes 5000 ++ fieldBytes [3, 1, 0]) := by decide +kernel

/-- R153, R164: the count before the temperature records, and a stopped and a running timer of a zone. -/
theorem test_heat_fields : part.heatFields[13]? = some 5 ∧ (part.zoneFields .riser)[10]? = some 0 ∧
    ((setZone .riser { minOn := some ⟨4990, 90⟩ } part).zoneFields .riser)[10]? = some 1 := by decide +kernel

/-! ### The hypotheses of the obligations are met

Each theorem `test_met_<Name>` shows, for every clause of the obligation of that name that has hypotheses, a concrete state and operands that
meet them together; a range is taken at its ends. -/

/-- Nothing waits at the Service Port, and no commit is in flight. -/
theorem test_part_free : part.free ∧ part.commitIdle := ⟨⟨rfl, rfl⟩, rfl⟩

/-- `part` with a commit in flight. -/
def writing : State := part.withSst { part.sst with writing := some {} }

theorem test_writing_free : writing.free ∧ writing.sst.writing.isSome = true := ⟨⟨rfl, rfl⟩, rfl⟩

/-- `part` with a valve state, a pattern and a drive. -/
def valveIn (v : ValveState) (p : LimitPattern) (d : Drive) : State := part.withIvd { part.ivd with state := v, pattern := p, drive := d }

/-- `part` with a guard state. -/
def guardIn (g : GuardState) : State := part.withOfg { part.ofg with state := g }

/-- `part` with a guard level of the sample record. -/
def withGuardLevel (g : Option Nat) (s : State) : State := s.withLmu { s.lmu with sample := { s.lmu.sample with guardLevel := g } }

/-- A fill record of a called fill, and `part` with the sequence in a state with that fill open. -/
def fill : FillRecord := { start := 4000, kind := .night, finalKind := .night, mode := .called, targetStart := 436098, targetEnd := 436098 }

def seqIn (q : SeqState) (v : ValveState) (p : LimitPattern) : State :=
  (valveIn v p .idle).withFsq { part.fsq with seq := q, fill := some fill }

/-- `part` with both sensors' held readings, taken at an uptime. -/
def reading (a b : Nat) (stamp : Word) : State :=
  part.withLmu { part.lmu with a := { part.lmu.a with held := some ⟨a, stamp⟩ }, b := { part.lmu.b with held := some ⟨b, stamp⟩ } }

/-- A timer that runs. -/
def runs : Timer := some ⟨4990, 90⟩

theorem test_met_FrontCommandRuns : part.pending = [] := rfl

theorem test_met_ArrivalFrames : ∃ t u, arrivesAt (.headSensorArrival 0) = some .lmu ∧ exec (.headSensorArrival 0) part = .next t ∧
    arrivesAt .linePeriodExpiry = some .sli ∧ exec .linePeriodExpiry part = .next u :=
  ⟨_, _, rfl, rfl, rfl, rfl⟩

theorem test_met_PowerOnGuardRecord : (guardIn .blind).ofg.state = .blind ∧ (guardIn .blind).lmu.sample.guardLevel.isSome = true := by
  decide +kernel

/-- A valid image, an image whose check differs, and no image. -/
theorem test_met_PowerOnLoadsSettings :
    (∃ (s : State) (i : Image), s.sst.image = some i ∧ i.check = Config.imageCheck i.copy) ∧
    (∃ s : State, ∀ i, s.sst.image = some i → i.check ≠ Config.imageCheck i.copy) ∧
    (∃ (s : State) (i : Image), s.sst.image = some i ∧ i.check ≠ Config.imageCheck i.copy) := by
  refine ⟨⟨{ sst := { image := some ⟨{}, Config.imageCheck {}⟩ } }, _, rfl, rfl⟩, ⟨part, fun i h => nomatch h⟩,
    ⟨{ sst := { image := some ⟨{}, ~~~Config.imageCheck {}⟩ } }, _, rfl, ?_⟩⟩
  intro h
  have := congrArg (fun w => w.getLsbD 0) h
  simp at this

theorem test_met_PowerOnBlockValues : LimitPattern.openOnly = .openOnly ∨ LimitPattern.openOnly = .neither := .inl rfl

theorem test_met_FieldArrivals : 4095 ≤ 4095 ∧ 0 ≤ 4095 := by decide

/-- Sensor A at 779 and 4135 counts is in range and at 778 and 4136 out of it; sensor B at 300, 20000 and at 299, 20001; a reading is stale
after 11 s of 10. -/
theorem test_met_SampleLevels :
    (∀ r ∈ [779, 4135], elapsed part.now (⟨r, 4990⟩ : Reading).stamp ≤ part.cfg.lmu.staleS ∧
      ¬((r : Int) < (part.cfg.lmu.aZero : Int) - 40 ∨ (part.cfg.lmu.aFull : Int) + 40 < r)) ∧
    (∀ r ∈ [778, 4136], (r : Int) < (part.cfg.lmu.aZero : Int) - 40 ∨ (part.cfg.lmu.aFull : Int) + 40 < r) ∧
    (reading 779 300 4990).lmu.a.held = some ⟨779, 4990⟩ ∧ (reading 779 300 4990).lmu.b.held = some ⟨300, 4990⟩ ∧
    (∀ r ∈ [300, 20000], 300 ≤ r ∧ r ≤ 20000) ∧ (∀ r ∈ [299, 20001], r < 300 ∨ 20000 < r) ∧
    (reading 2458 6480 4989).cfg.lmu.staleS < elapsed (reading 2458 6480 4989).now 4989 ∧
    (reading 2458 6480 4989).lmu.b.held = some ⟨6480, 4989⟩ ∧ part.lmu.a.held = none ∧ part.lmu.b.held = none := by decide +kernel

/-- `part` with sensor A GOOD for a full window at one level, B GOOD beside it or far from it, and a full rate ring. -/
def steady (backup : Bool) (apart : Nat) : State :=
  part.withLmu { part.lmu with
    a := { held := some ⟨2458, 4999⟩, ring := List.replicate 29 (some 6003), goodRun := 200 }
    b := { held := some ⟨6497 - apart, 4999⟩, ring := List.replicate 29 (some 6003), goodRun := 200 }
    pulseRing := List.replicate 29 0, acc := 96048, seeded := true, rateRing := List.replicate 8 6003
    sample := { part.lmu.sample with healthA := .good, healthB := .good, active := some (if backup then .b else .a) } }

/-- A sample with A GOOD and no movement, with A flat while B has moved, and with pulses metered; with the backup active and GOOD, and with the
primary; with no source; with a full rate ring and one that a change of source has emptied; with the sensors within agree_mm and apart. -/
theorem test_met_SampleVolumes :
    (let s := sampleTaken (steady false 0);
      (steady false 0).lmu.sample.healthA = .good ∧ s.lmu.sample.levelA = some 6003 ∧ s.lmu.sample.levelB = some 6003 ∧
        s.lmu.sample.healthA = .good ∧ s.lmu.sample.healthB = .good ∧ s.lmu.sample.active = some .a ∧
        s.lmu.sample.activeLevel = some 6003 ∧ s.lmu.sample.smoothed = some 6003 ∧ s.lmu.rateRing.length = 9 ∧
        s.lmu.rateRing = 6003 :: (List.replicate 7 6003 ++ [6003]) ∧ s.lmu.sample.rate = some 0) ∧
    (let s := (steady false 0).withIfm { part.ifm with pulses := 300 };
      (sampleTaken s).lmu.a.ring.length = 30 ∧ (sampleTaken s).lmu.sample.healthA = .suspectFlat) ∧
    (let s := sampleTaken (steady true 0);
      (steady true 0).lmu.sample.active = some Sensor.b ∧ s.lmu.sample.healthB = .good ∧ s.lmu.sample.active = some .a ∧
        s.lmu.sample.swap = true ∧ s.lmu.rateRing.length ≠ 9) ∧
    (∀ d ∈ [150, 151],
      let s := sampleTaken (steady false d);
      s.lmu.sample.levelA = some 6003 ∧ s.lmu.sample.levelB = some (6003 + d) ∧ s.lmu.sample.healthA = .suspectFlat ∧
        s.lmu.sample.healthB = .good) ∧
    (∀ d ∈ [150, 151],
      let s := sampleTaken ((steady false d).withLmu { (steady false d).lmu with a := { held := some ⟨2458, 4999⟩ } });
      s.lmu.sample.healthA = .good ∧ s.lmu.sample.healthB = .good ∧ s.lmu.sample.levelA = some 6003 ∧
        s.lmu.sample.levelB = some (6003 + d) ∧ s.lmu.disagreeCount = (if d = 150 then 0 else 1)) ∧
    (let s := sampleTaken (part.withLmu {});
      s.lmu.sample.active = none ∧ s.lmu.sample.smoothed = none ∧ s.lmu.sample.healthA ≠ .good) ∧
    ((some 5 : Option Nat) ∈ [none, some 5, some 9] ∧ (some 9 : Option Nat) ∈ [none, some 5, some 9]) := by decide +kernel

theorem test_met_HealthTable : (Health.absent = .absent ∨ ∃ k, Health.absent = .failed k) ∧
    (({ flatRef := some 6003 } : SensorState).flatRef = some 6003) := ⟨.inl rfl, rfl⟩

/-- The table of section 1.7: the first and last point, and the ends of the second interval. -/
theorem test_met_StrapConversions : pointsOrdered table = true ∧ 2 ≤ table.length ∧ table.head? = some ⟨0, 0⟩ ∧
    table.getLast? = some ⟨11000, 510000⟩ ∧ table[1]? = some ⟨2000, 60000⟩ ∧ table[2]? = some ⟨4000, 160000⟩ ∧
    (2000 ≤ 2000 ∧ 2000 < 4000) ∧ (2000 ≤ 3999 ∧ 3999 < 4000) ∧
    (∀ x ∈ [60001, 160000], (∀ r ∈ table.take 2, r.volume < x) ∧ x ≤ 160000) := by decide

theorem test_met_GuardTables : GuardState.tripped = .tripped ∧ (guardIn .clear).ofg.ceilingVolume.isSome = true ∧
    State.reset.ofg.ceilingVolume = none ∧ State.reset.ofg.state = .blind ∧
    (∀ g ∈ [10349, 10350], let s := withGuardLevel (some g) (part.withOfg { part.ofg with state := .warn, exitCount := 10 });
      s.ofg.state = .warn ∧ s.lmu.sample.guardLevel = some g ∧ s.cfg.ofg.warnExitN ≤ s.ofg.exitCount ∧
        (g + s.cfg.ofg.warnHystMm < s.cfg.ofg.warnMm ↔ g = 10349)) := by decide +kernel

/-- The spill count one below its threshold, with a fill that calls. -/
def spilling : State := (seqIn .filling .opened .openOnly).withOfg { part.ofg with heldSpill := .asserted, spillCount := 1 }

theorem test_met_SpillTripsGuard : spilling.cfg.ofg.combine = .any ∧ spilling.ofg.state.latched = false ∧
    spilling.ofg.heldSpill = .asserted ∧ spilling.cfg.ofg.spillN ≤ spilling.ofg.spillCount + 1 ∧ spilling.ivd.state = .opened ∧
    spilling.fsq.seq = .filling := by decide +kernel

/-- A latched guard one millimetre below the re-arm level, at it, and without sight; a guard that is not latched; the ends of the operands of a
test and the values beside them. -/
theorem test_met_GuardRequests :
    (let s := withGuardLevel (some 9999) (guardIn .tripped);
      s.ofg.state = .tripped ∧ s.lmu.sample.guardLevel = some 9999 ∧ 9999 < s.cfg.ofg.rearmMm ∧ s.svp.reply = none ∧ s.svp.queue = []) ∧
    part.ofg.state.latched = false ∧
    (let s := withGuardLevel none (guardIn .isolate);
      s.ofg.state.latched = true ∧ s.lmu.sample.guardLevel = none ∧ s.svp.reply = none ∧ s.svp.queue = []) ∧
    (let s := withGuardLevel (some 10000) (guardIn .isolate);
      s.ofg.state.latched = true ∧ s.lmu.sample.guardLevel = some 10000 ∧ s.cfg.ofg.rearmMm ≤ 10000 ∧ s.svp.reply = none ∧
        s.svp.queue = []) ∧
    (∀ x ∈ [100, 5000], 100 ≤ x ∧ x ≤ 5000) ∧ (∀ x ∈ [1, 60], 1 ≤ x ∧ x ≤ 60) ∧
    (part.ofg.state = .clear ∧ part.ofg.test = none ∧ part.ivd.state = .closed ∧ part.fsq.seq = .idle ∧ part.sst.part = .running) ∧
    (inRange 100 5000 (99#32).toInt = false ∧ inRange 100 5000 (5001#32).toInt = false) ∧
    (inRange 100 5000 (100#32).toInt = true ∧ inRange 1 60 (0#32).toInt = false ∧
      inRange 100 5000 (100#32).toInt = true ∧ inRange 1 60 (61#32).toInt = false) := by decide +kernel

theorem test_met_ValveOpenCommand :
    (part.withIvd { part.ivd with forceClose := true }).ivd.forceClose = true ∧
    ((valveIn (.fault .openTimeout) .neither .idle).ivd.state = .fault .openTimeout ∧
      (valveIn (.fault .openTimeout) .neither .idle).ivd.forceClose = false) ∧
    (part.ivd.forceClose = false ∧ part.ivd.state = .closed) ∧
    ((valveIn .opening .neither .opening).ivd.forceClose = false ∧ (valveIn .opening .neither .opening).ivd.state = .opening) := by
  decide +kernel

theorem test_met_ValveCloseCommand :
    part.ivd.state = .closed ∧ (valveIn .opened .openOnly .idle).ivd.state = .opened ∧
    ((valveIn .unknown .both .idle).ivd.state = .unknown ∧ (valveIn .unknown .both .idle).ivd.pattern ≠ .closedOnly) ∧
    (valveIn .closing .neither .closing).ivd.state = .closing ∧
    ((valveIn .unknown .closedOnly .idle).ivd.state = .unknown ∧ (valveIn .unknown .closedOnly .idle).ivd.pattern = .closedOnly) ∧
    (let s := valveIn (.fault .closeTimeout) .neither .closing;
      s.ivd.state = .fault .closeTimeout ∧ s.ivd.drive = .closing) ∧
    (let s := valveIn (.fault .closeTimeout) .neither .idle;
      s.ivd.state = .fault .closeTimeout ∧ s.ivd.drive ≠ .closing ∧ s.ivd.pattern ≠ .closedOnly) ∧
    (let s := valveIn (.fault .closeTimeout) .closedOnly .idle;
      s.ivd.state = .fault .closeTimeout ∧ s.ivd.drive ≠ .closing ∧ s.ivd.pattern = .closedOnly) := by decide +kernel

/-- A fill that waits for the open limit, called and pressured, without and with RUNNING accepted; and the loss of the open limit in
FILLING. -/
theorem test_met_OpenLimit :
    (let s := seqIn .opening .opening .neither;
      s.ivd.state = .opening ∧ s.ivd.pattern ≠ .openOnly ∧ s.fsq.seq = .opening ∧ s.fsq.fill = some fill ∧ fill.mode = .called ∧
        s.sli.accepted ≠ some .running) ∧
    (let s := (seqIn .opening .opening .neither).withSli { part.sli with accepted := some .running };
      s.ivd.state = .opening ∧ s.ivd.pattern ≠ .openOnly ∧ s.fsq.seq = .opening ∧ s.fsq.fill = some fill ∧ fill.mode = .called ∧
        s.sli.accepted = some .running) ∧
    (let s := (seqIn .opening .opening .neither).withFsq { part.fsq with seq := .opening, fill := some { fill with mode := .pressured } };
      s.ivd.state = .opening ∧ s.ivd.pattern ≠ .openOnly ∧ s.fsq.seq = .opening ∧ s.fsq.fill = some { fill with mode := .pressured }) ∧
    (let s := seqIn .filling .opened .openOnly;
      s.ivd.state = .opened ∧ s.ivd.pattern = .openOnly ∧ s.fsq.seq = .filling ∧ s.fsq.fill = some fill ∧ fill.cause = none) := by
  decide +kernel

/-- An ended fill at the arrival of CLOSED. -/
def ended (cause : EndCause) : State :=
  ((seqIn .closing .closing .neither).withFsq { part.fsq with
    seq := .closing, fill := some { fill with cause := some cause, endUptime := some 4800 } }).withIfm { part.ifm with fillTally := some 40000 }

/-- The same with a TOPUP row that waits. -/
def endedThenTopup : State :=
  let s := ended .host;
  (s.withTck { s.tck with band := .standard }).withFsq { s.fsq with
    rows := { s.fsq.rows with topup := { active := true, target := 400000, raised := some 4900 } } }

/-- With a cause that loads the retry timer and a tally at the turnover threshold; with permission GRANTED and no working target; and with a
start check that passes. -/
theorem test_met_ClosedArrival :
    (∀ c ∈ [EndCause.line, .host], (ended c).ivd.state = .closing ∧ (ended c).ivd.pattern ≠ .closedOnly ∧ (ended c).fsq.seq = .closing ∧
      (ended c).fsq.fill.map FillRecord.cause = some (some c) ∧ (ended c).ofg.granted = true ∧ (ended c).working = none ∧
      (ended c).cfg.frostFill.turnoverL ≤ (ended c).ifm.fillTally.getD 0) ∧
    (let s := endedThenTopup;
      s.ivd.state = .closing ∧ s.ivd.pattern ≠ .closedOnly ∧ s.fsq.seq = .closing ∧ s.fsq.fill.map FillRecord.cause = some (some .host) ∧
        s.ofg.granted = true ∧ s.ivd.faults.isEmpty = true ∧ s.sst.part = .running ∧ s.ofg.test = none ∧ s.fsq.hold = false ∧
        s.fsq.retryTimer = none ∧ s.working = some (.topup, 400000)) := by decide +kernel

/-- R121, R111: the next fill starts in the event that closes the record of the last one. -/
theorem test_next_fill :
    let t := sequenceValve (.moved .closed) (endedThenTopup.withIvd { part.ivd with state := .closed, pattern := .closedOnly });
    t.fsq.journal.length = 1 ∧ t.fsq.seq = .opening ∧ t.fsq.fill.map FillRecord.kind = some .topup ∧ t.ivd.state = .opening := by
  decide +kernel

theorem test_met_BothLimits : part.ivd.pattern ≠ .both ∧ part.ofg.state ≠ .tripped ∧ (guardIn .tripped).ivd.pattern ≠ .both ∧
    (guardIn .tripped).ofg.state = .tripped := by decide +kernel

theorem test_met_WatchdogFaults :
    (let s := part.withIvd { part.ivd with state := .opening, pattern := .neither, drive := .opening, watchdog := runs };
      s.ivd.state = .opening ∧ s.ivd.watchdog.isSome = true) ∧
    (let s := (guardIn .tripped).withIvd { part.ivd with state := .closing, pattern := .neither, drive := .closing, watchdog := runs };
      s.ivd.state = .closing ∧ s.ivd.watchdog.isSome = true ∧ s.fsq.seq = .idle ∧ s.ofg.state = .tripped) ∧
    (let s := part.withIvd { part.ivd with state := .fault .openTimeout, drive := .closing, watchdog := runs };
      s.ivd.state = .fault .openTimeout ∧ s.ivd.watchdog.isSome = true ∧ s.fsq.seq = .idle) ∧
    part.ivd.watchdog = none := by decide +kernel

theorem test_met_ReproveAndStall :
    (let q : GuardTest := { offset := 100, count := 1, closeResult := .pending };
      let s := (part.withOfg { part.ofg with test := some q }).withIvd { part.ivd with reprove := runs, drive := .closing };
      s.ivd.reprove.isSome = true ∧ s.ivd.pattern = .closedOnly ∧ s.ofg.test = some q ∧ q.closeResult = .pending) ∧
    (let s := ((seqIn .closing .closed .closedOnly).withIvd { part.ivd with reprove := runs, drive := .closing }).withSst
        { part.sst with part := .quiescing };
      s.ivd.reprove.isSome = true ∧ s.ivd.pattern = .closedOnly ∧ s.ivd.state = .closed ∧ s.fsq.seq = .closing ∧ s.fsq.fill = some fill ∧
        s.ofg.granted = true ∧ s.working = none ∧ s.sst.part = .quiescing) ∧
    (let s := endedThenTopup.withIvd { part.ivd with reprove := runs, drive := .closing };
      s.ivd.reprove.isSome = true ∧ s.ivd.pattern = .closedOnly ∧ s.ivd.state = .closed ∧ s.fsq.seq = .closing ∧ s.fsq.fill.isSome = true ∧
        s.ofg.granted = true ∧ s.ivd.faults.isEmpty = true ∧ s.sst.part = .running ∧ s.ofg.test = none ∧ s.fsq.hold = false ∧
        s.fsq.retryTimer = none ∧ s.working = some (.topup, 400000)) ∧
    (let s := part.withIvd { part.ivd with reprove := runs, drive := .closing };
      s.ivd.reprove.isSome = true ∧ s.ivd.pattern = .closedOnly ∧ s.fsq.seq ≠ .closing ∧ s.working = none ∧ s.ofg.test = none) ∧
    (let s := (valveIn .closed .neither .closing).withIvd { part.ivd with pattern := .neither, reprove := runs };
      s.ivd.reprove.isSome = true ∧ s.ivd.pattern ≠ .closedOnly) ∧
    part.ivd.reprove = none ∧
    (let s := part.withIfm { part.ifm with stallTimer := runs, armed := true };
      s.ifm.stallTimer.isSome = true ∧ s.ifm.stall = false) := by decide +kernel

/-- The pulse that spends the blind budget, the pulse that spends the allowance, and a pulse during a fill. -/
theorem test_met_MeterPulse :
    (let s := part.withOfg { part.ofg with state := .blind, budget := 10 };
      s.ofg.state = .blind ∧ 0 < s.ofg.budget ∧ s.ofg.budget ≤ s.cfg.valve.litresPerPulse ∧ s.ofg.ceilingVolume.isSome = true) ∧
    (∀ a ∈ [10, 11],
      let s := (((part.withFpl { part.fpl with allowance := some a }).withFsq { part.fsq with
        rows := { topup := { active := true, target := 300000 } }, seq := .filling,
        fill := some { fill with kind := .topup, finalKind := .topup, fillingAt := some 4100 } }).withIfm { part.ifm with
          fillTally := some 0 }).withTck { part.tck with band := .standard };
      s.ofg.state ≠ .blind ∧ s.fpl.allowance = some a ∧ 0 < a ∧ s.topupRuns = true ∧ s.fsq.seq ≠ .idle ∧
        s.working = some (.topup, 300000) ∧ (a ≤ s.cfg.valve.litresPerPulse ↔ a = 10) ∧ (s.cfg.valve.litresPerPulse < a ↔ a = 11)) ∧
    (let s := (part.withOfg { part.ofg with state := .blind, budget := 11 }).withIfm { part.ifm with fillTally := some 70 };
      s.cfg.valve.litresPerPulse < s.ofg.budget ∧ s.fpl.allowance = none ∧ s.ifm.fillTally = some 70 ∧ s.topupRuns = false) ∧
    (let s := (seqIn .filling .opened .openOnly).withIfm { part.ifm with fillTally := some 70 };
      s.ifm.fillTally = some 70 ∧ s.ofg.state ≠ .blind ∧ s.fpl.allowance = none) := by decide +kernel

/-- The clock UNSET, in the last second before midnight and the one before it, and at a minute boundary and beside it. -/
theorem test_met_ClockAdvance :
    State.reset.tck.time = none ∧
    (∀ q ∈ [0, 86398], (part.withTck { part.tck with time := some ⟨1, q⟩ }).tck.time = some ⟨1, q⟩ ∧ q + 1 < 86400) ∧
    ((part.withTck { part.tck with time := some ⟨6, 86399⟩ }).tck.time = some ⟨6, 86399⟩ ∧ 86400 ≤ 86399 + 1) ∧
    (∀ q ∈ [0, 60, 86340], (⟨1, q⟩ : TimeOfWeek).seconds % 60 = 0) ∧ (∀ q ∈ [1, 59, 86399], (⟨1, q⟩ : TimeOfWeek).seconds % 60 ≠ 0) ∧
    (part.fpl.openDay.vStart = none ∧ part.lmu.sample.planningVolume = some 191000) := by decide +kernel

/-- The calendar of section 4.6, and a single window at the ends of its ranges. -/
theorem test_met_ClockAndTariffSet : (∀ d ∈ [0, 6], d ≤ 6) ∧ (∀ q ∈ [0, 86399], q ≤ 86399) ∧
    (let ws : List Window := [⟨1439, 1440, 1, .peak⟩];
      ws.length ≤ 8 ∧
        (∀ w, w ∈ ws → w.start ≤ 1439 ∧ 1 ≤ w.length ∧ w.length ≤ 1440 ∧ w.days ≠ 0 ∧ w.band ≠ .standard) ∧
        ∀ (i j : Nat) (v w : Window) (m : Nat), i < j → ws[i]? = some v → ws[j]? = some w → m < 10080 →
          ¬(v.covers m = true ∧ w.covers m = true)) ∧
    part.tck.time = some ⟨1, 82800⟩ ∧ State.reset.tck.time = none := by
  refine ⟨by decide, by decide, ⟨by decide, by decide, ?_⟩, rfl, rfl⟩
  intro i j v w m hij _ hj _
  have : j ≠ 0 := by omega
  cases j with
  | zero => omega
  | succ j => simp at hj

theorem test_met_BandRule :
    (let w : Window := ⟨1380, 420, 31, .cheap⟩;
      w.length ≤ 1440 ∧ w ∈ calendar ∧ w.covers 1380 = true ∧ w.covers 1799 = true ∧
        (∀ v, v ∈ calendar → v.covers 1380 = true → v = w) ∧ (∀ v, v ∈ calendar → v.covers 1799 = true → v = w)) ∧
    (∀ v, v ∈ calendar → v.covers 420 = false) ∧ (∀ v, v ∈ calendar → v.covers 1019 = false) ∧ (0 < 10080 ∧ 10079 < 10080) ∧
    runRemaining calendar 10050 < 10080 ∧ State.reset.tck.time = none := by decide +kernel

theorem test_met_ForecastAndPlan :
    (part.lmu.sample.active.isSome = true ∧ part.cfg.strap ≠ [] ∧ part.lmu.sample.planningVolume = some 191000 ∧
      part.ofg.ceilingVolume = some 465000 ∧ part.runLeft = some 420) ∧
    (let s := (part.withLmu { part.lmu with sample := { part.lmu.sample with active := none } }).withTck { part.tck with
        band := .standard };
      s.svp.reply = none ∧ s.svp.queue = [] ∧ s.lmu.sample.active = none ∧ s.tck.band ≠ .cheap ∧
        bandAt s.cfg.calendar (0 * 1440 + 82800 / 60) = .cheap ∧ (s.newPlan s.lmu.sample .advance).figures = none) := by decide +kernel

theorem test_met_Temperatures :
    (TempPort.overflow ≠ .ambient ∧ (cold .cheap none).fhc.season ≠ .out ∧ part.fhc.season = .out) ∧
    (let s := part.withFhc { part.fhc with temps := { overflow := ⟨some 15, 4950, some ⟨4950, 60⟩⟩ } };
      (s.fhc.temps.get .overflow).validity.isSome = true) := by decide +kernel

/-- `part` with the AMBIENT reading and the counts of a season. -/
def seasonAt (season : Season) (v : Int) (cold warm valid : Nat) : State :=
  part.withFhc { part.fhc with
    season := season, cold := cold, warm := warm, valid := valid
    temps := { ambient := ⟨some v, 4990, some ⟨4990, 60⟩⟩ } }

theorem test_met_SeasonStep :
    (let s := seasonAt .out (-20) 59 0 59;
      s.fhc.temps.ambient.reading = some (-20) ∧ s.fhc.season = .out ∧ -20 ≤ s.cfg.heat.frostOnT ∧
        s.cfg.heat.frostPersistMin ≤ s.fhc.cold + 1) ∧
    (let s := seasonAt .out (-20) 58 0 58;
      s.fhc.temps.ambient.reading = some (-20) ∧ s.fhc.season = .out ∧ s.fhc.cold + 1 < s.cfg.heat.frostPersistMin) ∧
    (let s := seasonAt .inSeason 20 0 59 59;
      s.fhc.temps.ambient.reading = some 20 ∧ s.cfg.heat.frostOffT ≤ 20 ∧ s.cfg.heat.frostPersistMin ≤ s.fhc.warm + 1) ∧
    (let s := seasonAt .unknown 19 0 0 59;
      s.fhc.temps.ambient.reading = some 19 ∧ ¬s.cfg.heat.frostOffT ≤ 19 ∧ s.cfg.heat.frostPersistMin ≤ s.fhc.valid + 1) ∧
    (let s := seasonAt .unknown 19 0 0 58;
      s.fhc.temps.ambient.reading = some 19 ∧ s.fhc.valid + 1 < s.cfg.heat.frostPersistMin) ∧
    (part.fhc.temps.ambient.reading = none ∧ part.fhc.cold < part.cfg.heat.frostPersistMin ∧
      part.fhc.warm < part.cfg.heat.frostPersistMin ∧ part.fhc.valid < part.cfg.heat.frostPersistMin) := by decide +kernel

/-- Four candidates of which the sensor zone, with its boost, is above the others. -/
theorem test_met_HeatRun : let s := cold .cheap none;
    s.fhc.startHold = false ∧ (s.cfg.zones.get .sensor).enabled = true ∧ (s.fhc.zones.get .sensor).need = true ∧
      (s.fhc.zones.get .sensor).state ≠ .fault ∧ s.heatCut = false ∧
      (∀ y ∈ [Zone.riser, .overflow, .pit], effPriority (s.cfg.zones.get y) (s.fhc.zones.get y) <
        effPriority (s.cfg.zones.get .sensor) (s.fhc.zones.get .sensor)) ∧
      (∀ y ∈ [Zone.riser, .overflow, .pit, .sensor], (s.fhc.zones.get y).minOn = none) ∧
      ((powerRun s).fhc.zones.get .sensor).state = .on ∧ ((guardIn .clear).fhc.zones.get .pit).state ≠ .fault := by decide +kernel

/-- `part` with the riser zone ON and its reading. -/
def riserOn (a : Option Int) (v : Int) : State :=
  part.withFhc { part.fhc with
    temps := { riser := ⟨some v, 4990, some ⟨4990, 60⟩⟩ }
    zones := { part.fhc.zones with riser := { state := .on, need := true, onSince := some 3800, onTemp := a, minOn := runs, confirm := runs } } }

theorem test_met_ZoneTimers :
    (let s := part.withFhc { part.fhc with startHold := true, startTimer := runs, temps := { riser := ⟨some 20, 4990, some ⟨4990, 60⟩⟩ } };
      s.fhc.startHold = true ∧ s.fhc.startTimer.isSome = true ∧ (s.fhc.temps.get (zonePort .riser)).reading = some 20 ∧
        20 ≤ (s.cfg.zones.get .riser).onT ∧ (s.fhc.temps.get (zonePort .pit)).reading = none) ∧
    (let s := riserOn (some 10) 15;
      (s.fhc.zones.get .riser).state = .on ∧ (s.fhc.zones.get .riser).minOn.isSome = true ∧ s.fhc.startHold = false ∧
        (s.fhc.zones.get .riser).confirm.isSome = true ∧ (s.fhc.zones.get .riser).onTemp = some 10 ∧ s.zoneReading .riser = some 15 ∧
        10 + s.cfg.heat.confirmRise ≤ 15) ∧
    (let s := riserOn (some 10) 14;
      (s.fhc.zones.get .riser).state = .on ∧ (s.fhc.zones.get .riser).confirm.isSome = true ∧
        (s.fhc.zones.get .riser).onTemp = some 10 ∧ s.zoneReading .riser = some 14 ∧ 14 < 10 + s.cfg.heat.confirmRise ∧
        14 < (s.cfg.zones.get .riser).offT) ∧
    (let s := riserOn none 14;
      (s.fhc.zones.get .riser).state = .on ∧ (s.fhc.zones.get .riser).confirm.isSome = true ∧
        (s.fhc.zones.get .riser).onTemp = none) := by decide +kernel

/-- R64: PASSING is noted again pass_n counting samples after a clear. -/
theorem test_clear_passing : ∃ t, exec (.faultClearValve 0) ((part.withIvd { part.ivd with faults := { passing := some 4000, count := 1 } }).withOfg
    { part.ofg with passCount := 9 }) = .next t ∧ t.ofg.passCount = 0 ∧ t.ivd.faults.isEmpty = true := ⟨_, rfl, by decide +kernel⟩

theorem test_met_FaultClear :
    (let s := part.withIvd { part.ivd with faults := { passing := some 4000, count := 1 } };
      s.svp.reply = none ∧ s.svp.queue = [] ∧ s.ivd.state = .closed ∧ s.ivd.faults.isEmpty = false ∧ s.ivd.faults.passing ≠ none) ∧
    (let s := part.withIvd { part.ivd with faults := { openTimeout := some 4000, count := 1 } };
      s.ivd.state = .closed ∧ s.ivd.faults.isEmpty = false ∧ s.ivd.faults.passing = none) ∧
    part.ivd.faults.isEmpty = true ∧ (valveIn (.fault .bothLimits) .both .closing).ivd.state = .fault .bothLimits ∧
    (let s := part.withFhc { part.fhc with zones := { part.fhc.zones with riser := { state := .fault } } };
      s.svp.reply = none ∧ s.svp.queue = [] ∧ (s.fhc.zones.get .riser).state = .fault ∧ (s.cfg.zones.get .riser).enabled = true) ∧
    (part.fhc.zones.get .riser).state ≠ .fault ∧ (inRange 0 4 (5#32).toInt = false ∧
      inRange 0 4 (0xFFFFFFFF#32).toInt = false) := by decide +kernel

theorem test_met_FillTimers :
    (let s := (seqIn .prepare .closed .closedOnly).withFsq { part.fsq with seq := .prepare, fill := some fill, prepareTimer := runs };
      s.fsq.seq = .prepare ∧ s.fsq.prepareTimer.isSome = true ∧ s.fsq.fill = some fill ∧ s.ivd.state = .closed ∧
        s.ivd.forceClose = false) ∧
    (let s := (seqIn .calling .opened .openOnly).withFsq { part.fsq with seq := .calling, fill := some fill, callTimer := runs };
      s.fsq.seq = .calling ∧ s.fsq.callTimer.isSome = true ∧ s.fsq.fill = some fill ∧ fill.cause = none ∧ s.ivd.state = .opened ∧
        s.sli.accepted ≠ some .running) ∧
    (let s := (seqIn .releasing .opened .openOnly).withFsq { part.fsq with seq := .releasing, fill := some fill, releaseTimer := runs };
      s.fsq.seq = .releasing ∧ s.fsq.releaseTimer.isSome = true ∧ s.fsq.fill = some fill ∧ s.ivd.state = .opened) ∧
    (∀ c ∈ [some StationCode.running, none],
      let s := ((seqIn .releasing .opened .openOnly).withFsq { part.fsq with seq := .releasing, releaseTimer := runs }).withSli
        { part.sli with accepted := c };
      s.fsq.seq = .releasing ∧ s.fsq.releaseTimer.isSome = true ∧ s.cfg.line.supplyMode = .called ∧ s.sli.accepted = c) ∧
    part.fsq.prepareTimer = none ∧ part.fsq.callTimer = none ∧ part.fsq.releaseTimer = none := by decide +kernel

/-- `part` with an active NIGHT row and the retry timer running. -/
def waiting : State := part.withFsq { part.fsq with
  rows := { night := { active := true, target := 436098, raised := some 4000, planned := some 218400 } }, retryTimer := runs }

/-- A start at once and one that prepares; a turnover at the least room for it and at one litre less. -/
theorem test_met_FillStarts :
    (∀ proven : Bool, let s := waiting.withFhc { waiting.fhc with pathProven := proven };
      s.fsq.retryTimer.isSome = true ∧ s.fsq.seq = .idle ∧ s.ofg.granted = true ∧ s.ivd.state = .closed ∧ s.ivd.forceClose = false ∧
        s.ivd.faults.isEmpty = true ∧ s.sst.part = .running ∧ s.ofg.test = none ∧ s.fsq.hold = false ∧
        s.working = some (.night, 436098) ∧ s.fhc.pathProven = proven ∧ s.cfg.frostFill.prepareMaxMin ≠ 0) ∧
    part.fsq.retryTimer = none ∧
    (∀ v ∈ [445000, 445001],
      let s := (cold .cheap none).withLmu { part.lmu with sample := { part.lmu.sample with planningVolume := some v } };
      s.fhc.season ≠ .out ∧ s.ofg.ceilingVolume = some 465000 ∧ s.lmu.sample.planningVolume = some v ∧
        (s.cfg.frostFill.turnoverL / 2 + v ≤ 465000 ↔ v = 445000)) ∧
    part.fhc.season = .out := by decide +kernel

theorem test_met_FillRequests :
    (20000 ≤ 20000 ∧ volumeAt part.cfg.strap 20000 = some 510000 ∧ part.ofg.ceilingVolume = some 465000) ∧
    (State.reset.cfg.strap = [] ∧ State.reset.svp.reply = none ∧ State.reset.svp.queue = []) ∧
    (20001#32 ≠ 0x80000000#32 ∧ inRange 0 20000 (20001#32).toInt = false ∧ inRange 0 20000 (0xFFFFFFFF#32).toInt = false) ∧
    (let s := seqIn .filling .opened .openOnly;
      s.svp.reply = none ∧ s.svp.queue = [] ∧ s.fsq.seq = .filling ∧ s.fsq.fill = some fill ∧ fill.cause = none ∧
        s.ivd.state = .opened) ∧
    (seqIn .filling .opened .openOnly).fsq.seq ≠ .idle := by decide +kernel

/-- A frame that makes BLOCKED, and one that makes RUNNING, the accepted code of a fill that calls; a frame in LOST, the last but one and the
last of recovery. -/
theorem test_met_GoodFrame :
    (∀ k ∈ [StationCode.blocked, .running],
      let s := (seqIn .calling .opened .openOnly).withSli { part.sli with candidate := some k, persist := 2, accepted := some .ready };
      s.sli.state ≠ .lost ∧ (1#6).toNat = s.cfg.line.lineAddress ∧ k.code = (BitVec.ofNat 4 k.code).toNat ∧
        s.cfg.line.persistN ≤ s.sli.persist + 1 ∧ s.sli.accepted ≠ some k ∧ s.fsq.seq = .calling ∧ s.fsq.fill = some fill ∧
        fill.cause = none ∧ s.ivd.state = .opened) ∧
    (∀ n ∈ [14, 15], let s := part.withSli { part.sli with state := .lost, counter := 255, recovery := n };
      s.sli.state = .lost ∧ (1#6).toNat = s.cfg.line.lineAddress ∧ StationCode.ready.code = (8#4).toNat ∧
        (s.sli.recovery + 1 < 16 ↔ n = 14)) := by decide +kernel

theorem test_met_LineErrors :
    (lineCheck 1 8 ≠ lineCheck 1 8 + 1 ∧ (2#6).toNat ≠ 1 ∧ ((7#4).toNat < 8 ∨ 11 < (7#4).toNat) ∧
      ((12#4).toNat < 8 ∨ 11 < (12#4).toNat)) ∧
    (judgeFrame 1 1 8 (lineCheck 1 8 + 1) = .error .check ∧ part.cfg.line.lineAddress = 1) ∧
    (∀ n ∈ [247, 248], let s := part.withSli { part.sli with counter := n };
      s.sli.state ≠ .lost ∧ (s.sli.counter + 8 ≤ 255 ↔ n = 247) ∧ (255 < s.sli.counter + 8 ↔ n = 248)) ∧
    (part.withSli { part.sli with state := .lost }).sli.state = .lost ∧ part.sli.logCount < 255 := by
  refine ⟨by decide +kernel, ⟨by rfl, by decide +kernel⟩, by decide +kernel⟩

theorem test_met_LineBits :
    part.sli.rx = .quiet ∧
    (part.withSli { part.sli with rx := .hunting [true] }).sli.rx = .hunting [true] ∧ [true].length ≤ 6 ∧
    ((part.withSli { part.sli with rx := .body [true, true, true] 3 }).sli.rx = .body [true, true, true] 3 ∧
      [true, true, true].length < 18) ∧
    ((part.withSli { part.sli with rx := .body [] 0 }).sli.rx = .body [] 0 ∧ 0 < 3 ∧ ([] : List Bool).length < 17) ∧
    ((part.withSli { part.sli with rx := .body (List.replicate 17 true) 2 }).sli.rx = .body (List.replicate 17 true) 2 ∧ 2 < 3 ∧
      (List.replicate 17 true).length = 17) ∧
    (part.withSli { part.sli with rx := .trailer [] true [] }).sli.rx = .trailer [] true [] ∧
    ((part.withSli { part.sli with rx := .trailer [] false [] }).sli.rx = .trailer [] false [] ∧
      [] ++ false :: [true, true, true, true, false] = lineFlag ∧ [true, true, true, true, false] ≠ []) ∧
    ((part.withSli { part.sli with rx := .trailer [] false [false, true, true, true, true] }).sli.rx =
      .trailer [] false [false, true, true, true, true] ∧ [false, true, true, true, true] ++ false :: [] = lineFlag) ∧
    (∀ rest, [] ++ true :: rest ≠ [false, true, true, true, true, false]) ∧
    (part.withSli { part.sli with rx := .late }).sli.rx = .late := by
  refine ⟨by decide, by decide, by decide, by decide, by decide, by decide, by decide, by decide, by decide, ?_, rfl⟩
  intro rest h
  simp at h

/-- An entry, and the recorder with some number of entries queued. -/
def entry : Entry := ⟨4990, 0, some 4620, some 4620, none, some 4620, 0, some .a,
  .clear, .cheap, .closed, false, false, false, false, false, false⟩

def queued (n : Nat) (t : TriggerState) : Trc := { queue := List.replicate n entry, trigger := t }

theorem test_met_RecorderPlaces :
    (1 ≤ ({ mode := .off, pre := 1 } : HistorySettings).pre ∧ ({ mode := .off, pre := 1 } : HistorySettings).mode = .off) ∧
    ((queued 0 .armed).trigger = .armed ∧ (queued 128 .frozen).trigger = .frozen) ∧
    (128 ≤ (queued 128 .armed).queue.length ∧ (queued 127 .armed).queue.length < 128 ∧ (queued 128 .armed).queue.length = 128) ∧
    (queued 127 .triggered).trigger = .triggered ∧
    (let c : HistorySettings := { mode := .rollFreeze, pre := 1 };
      1 ≤ c.pre ∧ c.mode = .rollFreeze ∧ (queued 1 .armed).queue.drop ((queued 1 .armed).queue.length - (c.pre - 1)) = []) := by
  decide +kernel

theorem test_met_NoticesAndArbiter :
    (let v : Svp := { mask := 0 };
      v.mask.getLsbD (NoticeClass.plan.code - 1) = false) ∧
    (let v : Svp := { notices := List.replicate 15 ⟨.plan, 0, []⟩ };
      v.mask.getLsbD (NoticeClass.plan.code - 1) = true ∧ v.notices.length < 16) ∧
    (let v : Svp := { notices := List.replicate 16 ⟨.plan, 0, []⟩ };
      v.mask.getLsbD (NoticeClass.plan.code - 1) = true ∧ 16 ≤ v.notices.length) ∧
    State.reset.svp.tx.isSome = true ∧
    (let v : Svp := { reply := some ⟨0x81, 1, [], 3⟩, busy := some ⟨0x7F, 2, [1, 5, 0], 4⟩ };
      v.tx = none ∧ v.reply = some ⟨0x81, 1, [], 3⟩ ∧ v.busy = some ⟨0x7F, 2, [1, 5, 0], 4⟩ ∧ 3 ≤ 4) ∧
    (let v : Svp := { reply := some ⟨0x81, 1, [], 5⟩, busy := some ⟨0x7F, 2, [1, 5, 0], 4⟩ };
      v.tx = none ∧ v.reply = some ⟨0x81, 1, [], 5⟩ ∧ v.busy = some ⟨0x7F, 2, [1, 5, 0], 4⟩ ∧ 4 < 5) ∧
    (let v : Svp := { notices := [⟨.plan, 0, []⟩] };
      v.tx = none ∧ v.reply = none ∧ v.busy = none ∧ v.notices = [⟨.plan, 0, []⟩]) ∧
    (let v : Svp := {};
      v.tx = none ∧ v.reply = none ∧ v.busy = none ∧ v.notices = []) := by decide +kernel

theorem test_met_ServiceBytesMakeFrame : part.svp.rx = .hunt ∧ (List.replicate 200 (0 : Byte)).length ≤ 200 := by decide +kernel

theorem test_met_ServiceReceiver :
    part.svp.rx = .hunt ∧ (part.withSvp { part.svp with rx := .header [] }).svp.rx = .header [] ∧ 200 < (201#8).toNat ∧
    ((part.withSvp { part.svp with gapRunning := true }).svp.gapRunning = true ∧ part.svp.gapRunning = false) ∧
    (crc16 [0, 1, 9] ≠ crc16 [0, 1, 9] + 1 ∧ ([] : List Byte).length ≤ 200) ∧ ((0#8) = 0 ∧ 0x27 < (0x28#8).toNat) ∧
    ([0] : List Byte) ≠ [] := by decide +kernel

/-- `part` with requests waiting behind a reply, and with a BUSY refusal formed. -/
def queueing (n : Nat) (busy : Option Reply) : State :=
  part.withSvp { part.svp with reply := some ⟨0x81, 1, [], 0⟩, queue := List.replicate n ⟨1, 2, []⟩, busy := busy }

theorem test_met_RequestPlacement : (List.replicate 200 (0 : Byte)).length ≤ 200 ∧
    (∀ n ∈ [0, 1], (queueing n none).svp.reply.isSome = true ∧ (queueing n none).svp.queue.length < 2) ∧
    ((queueing 2 none).svp.reply.isSome = true ∧ (queueing 2 none).svp.queue.length = 2 ∧ (queueing 2 none).svp.busy = none) ∧
    (let s := queueing 2 (some ⟨0x7F, 3, [1, 5, 0], 1⟩);
      s.svp.reply.isSome = true ∧ s.svp.queue.length = 2 ∧ s.svp.busy.isSome = true) := by decide +kernel

/-- `part` with a frame on the transmit line and requests waiting. -/
def sending (f : TxFrame) (queue : List Request) : State := part.withSvp { part.svp with tx := some f, queue := queue }

theorem test_met_FrameSent : part.svp.tx = none ∧
    ((sending ⟨.notice, 0x60, 0, []⟩ []).svp.tx = some ⟨.notice, 0x60, 0, []⟩) ∧
    ((sending ⟨.busy, 0x7F, 0, []⟩ []).svp.tx = some ⟨.busy, 0x7F, 0, []⟩) ∧
    ((sending ⟨.reply, 0x81, 0, []⟩ []).svp.tx = some ⟨.reply, 0x81, 0, []⟩ ∧ (0x81 : Byte) ≠ 0xA7 ∧
      (sending ⟨.reply, 0x81, 0, []⟩ []).svp.queue = []) ∧
    ((sending ⟨.reply, 0x81, 0, []⟩ [⟨1, 2, []⟩]).svp.queue = [⟨1, 2, []⟩]) ∧
    (let s := (sending ⟨.reply, 0xA7, 0, []⟩ []).withSst { part.sst with image := some ⟨part.cfg, 0⟩, imageValid := true };
      s.svp.tx = some ⟨.reply, 0xA7, 0, []⟩ ∧ s.sst.image = some ⟨part.cfg, 0⟩ ∧ s.restarted.evalBand = .cheap ∧ s.fsq.fill = none ∧ s.ofg.state.latched = false) ∧
    ((guardIn .isolate).ofg.state.latched = true ∧ (guardIn .isolate).ivd.pattern ≠ .both) := by decide +kernel

theorem test_met_GetRequests : part.free ∧ part.statusBody[5]?.isSome = true := ⟨⟨rfl, rfl⟩, by decide +kernel⟩

theorem test_met_GetRequestsInParts : (part.fpl.ring[6]?.isSome = true ∧ 6 < 200) ∧
    (let s := part.withFsq { part.fsq with journal := [fill] };
      s.svp.reply = none ∧ s.svp.queue = [] ∧ s.fsq.journal[0]? = some fill) ∧
    (((2#32).toInt < 0 ∨ 2 ≤ (2#32).toInt) ∧ ((0xFFFFFFFF#32).toInt < 0 ∨ 2 ≤ (0xFFFFFFFF#32).toInt)) ∧
    (((8#32).toInt < 0 ∨ (1 + part.fpl.ring.length : Nat) ≤ (8#32).toInt) ∧
      ((0xFFFFFFFF#32).toInt < 0 ∨ (1 + part.fpl.ring.length : Nat) ≤ (0xFFFFFFFF#32).toInt)) ∧
    (((2#32).toInt < 0 ∨ (2 + part.fsq.journal.length : Nat) ≤ (2#32).toInt) ∧
      ((0xFFFFFFFF#32).toInt < 0 ∨ (2 + part.fsq.journal.length : Nat) ≤ (0xFFFFFFFF#32).toInt)) ∧
    (inRange 0 4 (5#32).toInt = false ∧ inRange 0 4 (0xFFFFFFFF#32).toInt = false) ∧
    (inRange 1 4 (1#32).toInt = true ∧ inRange 1 4 (4#32).toInt = true) ∧
    (((1#32).toInt < 0 ∨ 1 ≤ (1#32).toInt) ∧ ((0xFFFFFFFF#32).toInt < 0 ∨ 1 ≤ (0xFFFFFFFF#32).toInt)) ∧
    ((4#32).toInt < 0 ∨ 4 ≤ (4#32).toInt) ∧ (seqIn .filling .opened .openOnly).fsq.fill = some fill ∧
    part.fsq.fill = none := by decide +kernel

/-- The settings at the ends of their ranges. -/
theorem test_met_SetValvePlanSensor :
    (∀ c ∈ [(⟨10, 1, 1, 10⟩ : ValveSettings), ⟨600, 30, 1000, 600⟩],
      10 ≤ c.valveTravelS ∧ c.valveTravelS ≤ 600 ∧ 1 ≤ c.reproveS ∧ c.reproveS ≤ 30 ∧ 1 ≤ c.litresPerPulse ∧ c.litresPerPulse ≤ 1000 ∧
        10 ≤ c.meterStallS ∧ c.meterStallS ≤ 600) ∧
    (∀ c ∈ [(⟨0, 0, 0, 10, .early, 0⟩ : PlanSettings), ⟨20000, 16000000, 50, 20000, .late, 240⟩],
      c.floorMm ≤ 20000 ∧ c.defaultDrawL ≤ 16000000 ∧ c.marginPct ≤ 50 ∧ 10 ≤ c.qCapLpm ∧ c.qCapLpm ≤ 20000 ∧ c.lateSlackMin ≤ 240) ∧
    (∀ c ∈ [(⟨1, 3, 0, 0, 1, 1, 0, 300, 8, 0, 1, .a, true, 1, 10, 1, 0, 2⟩ : LmuSettings),
        ⟨10, 600, 30, 4094, 4095, 20000, 20000, 20000, 64, 20, 1000000, .b, false, 600, 2000, 60, 6, 16⟩],
      (c.samplePeriodS = 1 ∨ c.samplePeriodS = 2 ∨ c.samplePeriodS = 5 ∨ c.samplePeriodS = 10) ∧ 3 ≤ c.staleS ∧ c.staleS ≤ 600 ∧
        c.warmSamples ≤ 30 ∧ c.aZero < c.aFull ∧ c.aFull ≤ 4095 ∧ 1 ≤ c.aSpanMm ∧ c.aSpanMm ≤ 20000 ∧ c.aOffsetMm ≤ 20000 ∧
        300 ≤ c.bMountMm ∧ c.bMountMm ≤ 20000 ∧ 8 ≤ c.flatWindow ∧ c.flatWindow ≤ 64 ∧ c.flatBandMm ≤ 20 ∧ 1 ≤ c.flatFlowL ∧
        c.flatFlowL ≤ 1000000 ∧ 1 ≤ c.revertSamples ∧ c.revertSamples ≤ 600 ∧ 10 ≤ c.agreeMm ∧ c.agreeMm ≤ 2000 ∧
        1 ≤ c.agreeSamples ∧ c.agreeSamples ≤ 60 ∧ c.smoothK ≤ 6 ∧ 2 ≤ c.rateSpan ∧ c.rateSpan ≤ 16) := by decide +kernel

theorem test_met_SetLineZoneHistory :
    (∀ c ∈ [((⟨0, 1, 1, .called⟩ : LineSettings), (⟨10, 10, 60, 0, 0, 0⟩ : SupplySettings)),
        (⟨63, 5, 8, .pressured⟩, ⟨600, 600, 3600, 20000, 1000000, 1000000⟩)],
      c.1.lineAddress ≤ 63 ∧ 1 ≤ c.1.linePeriodS ∧ c.1.linePeriodS ≤ 5 ∧ 1 ≤ c.1.persistN ∧ c.1.persistN ≤ 8 ∧ 10 ≤ c.2.callWaitS ∧
        c.2.callWaitS ≤ 600 ∧ 10 ≤ c.2.releaseWaitS ∧ c.2.releaseWaitS ≤ 600 ∧ 60 ≤ c.2.retryS ∧ c.2.retryS ≤ 3600 ∧
        c.2.emergencyMm ≤ 20000 ∧ c.2.standardRefillL ≤ 1000000 ∧ c.2.peakRefillL ≤ 1000000) ∧
    (∀ c ∈ [(⟨-300, -299, 0, 0, true⟩ : ZoneSettings), ⟨299, 300, 6000, 7, false⟩],
      -300 ≤ c.onT ∧ c.onT < c.offT ∧ c.offT ≤ 300 ∧ c.powerW ≤ 6000 ∧ c.priority ≤ 7) ∧
    ((part.fhc.zones.get .pit).state ≠ .fault ∧ part.fhc.startHold = false ∧ (riserOn none 14).zoneReading .riser = some 14) ∧
    (∀ c ∈ [(⟨.off, 1, 1, 0, 1, 1⟩ : HistorySettings), ⟨.idleRoll, 60, 127, 31, 128, 1440⟩],
      1 ≤ c.every ∧ c.every ≤ 60 ∧ 1 ≤ c.pre ∧ c.pre ≤ 127 ∧ 1 ≤ c.watermark ∧ c.watermark ≤ 128 ∧ 1 ≤ c.collectMin ∧
        c.collectMin ≤ 1440 ∧ c.mode ≠ part.cfg.history.mode) := by decide +kernel

theorem test_met_SetStrapGuardHeat :
    (let pts : List StrapPoint := [⟨0, 0⟩, ⟨20000, 16000000⟩];
      2 ≤ pts.length ∧ pts.length ≤ 16 ∧ (∀ p, p ∈ pts → p.level ≤ 20000 ∧ p.volume ≤ 16000000) ∧
        ∀ (i : Nat) (p q : StrapPoint), pts[i]? = some p → pts[i + 1]? = some q → p.level < q.level ∧ p.volume ≤ q.volume) ∧
    (∀ c ∈ [(⟨100, 1, 0, 0, 101, 1, 1, .any, 10, 0, 1, 1, 0, 0, false, 0⟩ : GuardSettings),
        ⟨19999, 60, 2000, 60, 20000, 30, 30, .both, 1000, 19998, 500, 60, 5000, 5000, true, 1000000⟩],
      100 ≤ c.warnMm ∧ 1 ≤ c.warnN ∧ c.warnN ≤ 60 ∧ c.warnHystMm ≤ 2000 ∧ c.warnExitN ≤ 60 ∧ c.tripMm ≤ 20000 ∧ 1 ≤ c.tripN ∧
        c.tripN ≤ 30 ∧ 1 ≤ c.spillN ∧ c.spillN ≤ 30 ∧ 10 ≤ c.riseAfterTripMm ∧ c.riseAfterTripMm ≤ 1000 ∧ 1 ≤ c.passRate ∧
        c.passRate ≤ 500 ∧ 1 ≤ c.passN ∧ c.passN ≤ 60 ∧ c.ceilingMarginMm ≤ 5000 ∧ c.frostDerateMm ≤ 5000 ∧ c.blindMarginL ≤ 1000000 ∧
        c.warnMm < c.tripMm ∧ c.rearmMm < c.warnMm ∧ c.warnHystMm < c.warnMm ∧ c.ceilingMarginMm + c.frostDerateMm < c.warnMm) ∧
    (∀ c ∈ [((⟨-300, -200, 1, -100, 0, 0, 0, 0, 1, 1⟩ : HeatSettings), (⟨0, 1, 1⟩ : FrostFillSettings)),
        (⟨100, 200, 720, 200, 20000, 20000, 20000, 1800, 120, 50⟩, ⟨240, 72, 1000000⟩)],
      -300 ≤ c.1.frostOnT ∧ c.1.frostOnT ≤ 100 ∧ c.1.frostOnT < c.1.frostOffT ∧ -200 ≤ c.1.frostOffT ∧ c.1.frostOffT ≤ 200 ∧
        1 ≤ c.1.frostPersistMin ∧ c.1.frostPersistMin ≤ 720 ∧ -100 ≤ c.1.ovfReadyT ∧ c.1.ovfReadyT ≤ 200 ∧
        c.1.budgetCheapW ≤ 20000 ∧ c.1.budgetStandardW ≤ 20000 ∧ c.1.budgetPeakW ≤ 20000 ∧ c.1.minOnS ≤ 1800 ∧
        1 ≤ c.1.confirmMin ∧ c.1.confirmMin ≤ 120 ∧ 1 ≤ c.1.confirmRise ∧ c.1.confirmRise ≤ 50 ∧ c.2.prepareMaxMin ≤ 240 ∧
        1 ≤ c.2.turnoverH ∧ c.2.turnoverH ≤ 72 ∧ 1 ≤ c.2.turnoverL ∧ c.2.turnoverL ≤ 1000000) := by
  refine ⟨⟨by decide, by decide, by decide, ?_⟩, by decide, by decide⟩
  intro i p q hp hq
  match i with
  | 0 => simp at hp hq; subst hp hq; decide
  | i + 1 => simp at hq

/-- Bodies whose fields are in range but disagree: an LMU group with a_full at a_zero, a guard group with trip_mm at warn_mm, a heating group
with frost_off_t at frost_on_t. -/
def sensorFlat : List Word := sensorFields { ({} : LmuSettings) with aZero := 819, aFull := 819 }
def guardEven : List Word := guardFields { ({} : GuardSettings) with tripMm := 10400 }
def heatEven : List Word := heatSettingFields { ({} : HeatSettings) with frostOnT := 20 } {}

/-- A group of four fields: too short; whole during a commit; and with its third field out of range by one at each end. Then, for the requests
with checks of their own, a body for each refusal. -/
theorem test_met_SetRefusals :
    ([90, 3, 10] : List Word).length ≠ 4 ∧ ([90, 3, 10, 60] : List Word).length = 4 ∧
    ([0] : List Word).length ≠ 18 ∧ writing.sst.writing.isSome = true ∧
    (∀ fs ∈ [([90, 3, 0, 60] : List Word), [90, 3, 1001, 60]],
      inRange 1 1000 (intAt fs 2) = false ∧ inRange 10 600 (intAt fs 0) = true ∧ inRange 1 30 (intAt fs 1) = true) ∧
    (List.replicate 18 (0 : Word)).length = 18 ∧ ([0] : List Word) ≠ [] ∧
    (let c : ZoneSettings := ⟨300, -300, 6000, 7, true⟩;
      -300 ≤ c.offT ∧ c.offT ≤ c.onT ∧ c.onT ≤ 300 ∧ c.powerW ≤ 6000 ∧ c.priority ≤ 7) ∧
    (sensorFlat.length = 18 ∧ intAt sensorFlat 4 ≤ intAt sensorFlat 3 ∧ sensorBad sensorFlat = none ∧
      sensorBad (sensorFlat.set 0 3) = some 0 ∧ inRange 3 600 (intAt (sensorFlat.set 1 601) 1) = false) ∧
    (inRange 2 16 (intAt [1] 0) = false ∧ (([2, 0, 0] : List Word).length : Int) ≠ 1 + 2 * intAt [2, 0, 0] 0 ∧
      (([2, 0, 0, 0, 0] : List Word).length : Int) = 1 + 2 * intAt [2, 0, 0, 0, 0] 0 ∧
      intAt [2, 0, 0, 0, 0] (1 + 2) ≤ intAt [2, 0, 0, 0, 0] 1 ∧ inRange 0 20000 (intAt [2, 20001, 0, 0, 0] 1) = false) ∧
    (inRange 0 8 (intAt [9] 0) = false ∧ (([1, 0, 1, 0, 1] : List Word).length : Int) = 1 + 4 * intAt [1, 0, 1, 0, 1] 0 ∧
      inRange 1 127 (intAt [1, 0, 1, 0, 1] 3) = false) ∧
    (let v : Window := ⟨0, 60, 1, .cheap⟩
     let w : Window := ⟨59, 1, 1, .peak⟩;
      v.covers 59 = true ∧ w.covers 59 = true ∧ sharedMinute 0 [v, w] = some (0, 1)) ∧
    (guardEven.length = 16 ∧ firstBad guardEven 0 guardRanges = none ∧ intAt guardEven 4 ≤ intAt guardEven 0) ∧
    (heatEven.length = 13 ∧ firstBad heatEven 0 heatRanges = none ∧ intAt heatEven 1 ≤ intAt heatEven 0) ∧
    (inRange 0 6 (7#32).toInt = false ∧ inRange 0 6 (6#32).toInt = true ∧ inRange 0 86399 (86400#32).toInt = false) := by decide +kernel

theorem test_met_RecordRequests : ((0#32 : Word) = 0 ∧ inRange 0 1 (2#32).toInt = false ∧ inRange 0 1 (0xFFFFFFFF#32).toInt = false) ∧
    (queued 2 .armed).queue.take 1 = entry :: [] ∧ (0x3FFFFF#32).toNat < 4194304 ∧ part.commitIdle := by
  refine ⟨by decide, by decide, by decide, rfl⟩

theorem test_met_QuiesceAndResume :
    (part.sst.part = .running ∧ part.fsq.seq = .idle ∧ part.ivd.state = .closed ∧ part.fhc.startHold = false) ∧
    (let s := part.withSst { part.sst with part := .quiet, keepHeat := false };
      s.svp.reply = none ∧ s.svp.queue = [] ∧ s.sst.part = .quiet) ∧
    (let s := (seqIn .filling .opened .openOnly).withSst { part.sst with part := .quiescing };
      s.svp.reply = none ∧ s.svp.queue = [] ∧ s.sst.part = .quiescing ∧ s.fsq.seq ≠ .idle) ∧
    (inRange 0 1 (2#32).toInt = false ∧ inRange 0 1 (0xFFFFFFFF#32).toInt = false) ∧
    (State.reset.sst.part = .unconfigured ∧ State.reset.svp.reply = none ∧ State.reset.svp.queue = []) := by decide +kernel

theorem test_met_WriteAndCollect :
    (writing.sst.writing = some {} ∧ part.sst.writing = none) ∧
    ((State.reset.withSst { State.reset.sst with writing := some part.cfg }).sst.part = .unconfigured ∧ part.cfg.strap ≠ []) ∧
    part.trc.collectTimer = none ∧
    (let s := part.withTrc { queued 1 .armed with collectTimer := runs };
      s.trc.collectTimer.isSome = true ∧ s.trc.queue = entry :: []) := by decide +kernel

/-- A state with every invariant from which a step goes on: a calling fill, with a zone that heats. -/
def busyPart : State :=
  (((seqIn .calling .opened .openOnly).withSli { part.sli with wishCall := true }).withFhc { part.fhc with
    zones := { part.fhc.zones with sensor := { state := .on, need := true } }, lastBudget := some 9000 }).withPending [.linePeriodExpiry]

theorem test_met_Kept : HeatSafe busyPart ∧ Bounded busyPart ∧ CallSound busyPart ∧ GuardSound busyPart ∧ CeilingSound busyPart ∧
    ∃ t, step busyPart = .next t := by
  refine ⟨⟨?_, by decide +kernel⟩, ⟨⟨by decide +kernel, by decide +kernel⟩, by decide +kernel, ⟨by decide +kernel,
      (fun i h => nomatch (show (none : Option Image) = some i from h)),
      fun w h => nomatch (show (none : Option Settings) = some w from h)⟩, ⟨by decide +kernel, by decide +kernel⟩⟩,
    ⟨fun _ => ⟨rfl, .inl rfl⟩, fun _ => ⟨fill, rfl, rfl⟩⟩, ⟨by decide +kernel, by decide +kernel, by decide +kernel⟩,
    ⟨by decide +kernel, by decide +kernel, ?_⟩, _, rfl⟩
  · intro z; cases z <;> decide +kernel
  · intro k; cases k <;> decide +kernel

end Sys2Proof.Tests
end

section
/-! PROOFS. Level measurement: the table of a sensor's health (R8, R9, R12) and the strapping-table conversions (R21, R22). -/
namespace Sys2Proof.Machine

/-! ### Health (R8, R9, R12) -/

theorem absDiff_eq_natAbs (a b : Nat) : absDiff a b = ((a : Int) - b).natAbs := by
  unfold absDiff
  split <;> omega

section
variable (c : LmuSettings) (flat : Bool) (h : Health) (st : SensorState) (level : Nat)

theorem nextHealth_stale : (nextHealth c flat h st .stale).1 = .failed .stale := rfl
theorem nextHealth_range : (nextHealth c flat h st .range).1 = .failed .range := rfl
theorem nextHealth_absent : nextHealth c flat h st .absent = (h, st) := rfl

/-- R8: the first reading of a sensor that had none, or a bad one, starts the warming. -/
theorem nextHealth_fresh (hh : h = .absent ∨ ∃ k, h = .failed k) :
    (nextHealth c flat h st (.valid level)).1 = if c.warmSamples = 0 then .good else .warming := by
  obtain rfl | ⟨k, rfl⟩ := hh <;> rfl

theorem nextHealth_warming :
    (nextHealth c flat .warming st (.valid level)).1 = if c.warmSamples ≤ st.warmCount + 1 then .good else .warming := by
  show (if _ then _ else _ : Health × SensorState).1 = _
  split <;> rfl

theorem nextHealth_good :
    nextHealth c flat .good st (.valid level) = if flat then (.suspectFlat, { st with flatRef := some level }) else (.good, st) := rfl

/-- R12: a SUSPECT sensor is GOOD again when its level has left the reference by more than the band. -/
theorem nextHealth_suspectFlat (ref : Nat) (href : st.flatRef = some ref) :
    (nextHealth c flat .suspectFlat st (.valid level)).1 =
      if c.flatBandMm < ((level : Int) - ref).natAbs then .good else .suspectFlat := by
  rw [← absDiff_eq_natAbs]
  show (if c.flatBandMm < absDiff level (st.flatRef.getD level) then _ else _ : Health × SensorState).1 = _
  rw [href, Option.getD_some]
  split <;> rfl

end

/-! ### Strapping-table conversions (R21, R22) -/

/-- R20: along an ordered table every later point is strictly higher and holds at least as much. -/
theorem pointsOrdered_pairwise (t : List StrapPoint) (h : pointsOrdered t = true) :
    t.Pairwise fun p q => p.level < q.level ∧ p.volume ≤ q.volume := by
  induction t with
  | nil => exact .nil
  | cons p rest ih =>
    cases rest with
    | nil => exact List.pairwise_singleton _ _
    | cons q rest =>
      simp only [pointsOrdered, Bool.and_eq_true, decide_eq_true_eq] at h
      obtain ⟨⟨hl, hv⟩, ho⟩ := h
      have hq := ih ho
      refine List.pairwise_cons.2 ⟨fun r hr => ?_, hq⟩
      obtain rfl | hr := List.mem_cons.1 hr
      · exact ⟨hl, hv⟩
      · obtain ⟨hql, hqv⟩ := (List.pairwise_cons.1 hq).1 r hr
        omega

theorem pointsOrdered_tail {p : StrapPoint} {t : List StrapPoint} (h : pointsOrdered (p :: t) = true) : pointsOrdered t = true := by
  cases t with
  | nil => rfl
  | cons q t => simp only [pointsOrdered, Bool.and_eq_true] at h; exact h.2

/-- The first point of an ordered table is the lowest. -/
theorem head_le_of_mem {p q : StrapPoint} {t : List StrapPoint} (h : pointsOrdered (p :: t) = true) (hq : q ∈ p :: t) :
    p.level ≤ q.level ∧ p.volume ≤ q.volume := by
  obtain rfl | hq := List.mem_cons.1 hq
  · exact ⟨Nat.le_refl _, Nat.le_refl _⟩
  · obtain ⟨hl, hv⟩ := (List.pairwise_cons.1 (pointsOrdered_pairwise _ h)).1 q hq
    exact ⟨Nat.le_of_lt hl, hv⟩

/-- The first point of an ordered table of two points or more lies strictly below every later one. -/
theorem head_lt_of_mem_tail {p q : StrapPoint} {t : List StrapPoint} (h : pointsOrdered (p :: t) = true) (hq : q ∈ t) :
    p.level < q.level := ((List.pairwise_cons.1 (pointsOrdered_pairwise _ h)).1 q hq).1

theorem segForward_of_last (t : List StrapPoint) (last : StrapPoint) (x : Nat) (ho : pointsOrdered t = true)
    (hl : t.getLast? = some last) (hx : last.level ≤ x) : segForward t x = last.volume := by
  induction t with
  | nil => simp at hl
  | cons p rest ih =>
    cases rest with
    | nil => simp only [List.getLast?_singleton, Option.some.injEq] at hl; rw [segForward, hl]
    | cons q rest =>
      rw [List.getLast?_cons_cons] at hl
      have hq := head_le_of_mem (pointsOrdered_tail ho) (List.mem_of_getLast? hl)
      rw [segForward, if_neg (by omega)]
      exact ih (pointsOrdered_tail ho) hl

theorem segInverse_of_last (t : List StrapPoint) (last : StrapPoint) (x : Nat) (ho : pointsOrdered t = true)
    (hl : t.getLast? = some last) (hx : last.volume < x) : segInverse t x = last.level := by
  induction t with
  | nil => simp at hl
  | cons p rest ih =>
    cases rest with
    | nil => simp only [List.getLast?_singleton, Option.some.injEq] at hl; rw [segInverse, hl]
    | cons q rest =>
      rw [List.getLast?_cons_cons] at hl
      have hq := head_le_of_mem (pointsOrdered_tail ho) (List.mem_of_getLast? hl)
      rw [segInverse, if_neg (by omega)]
      exact ih (pointsOrdered_tail ho) hl

/-- R21: between two neighbouring points the volume is interpolated. -/
theorem segForward_between (t : List StrapPoint) (i : Nat) (p q : StrapPoint) (x : Nat) (ho : pointsOrdered t = true)
    (hp : t[i]? = some p) (hq : t[i + 1]? = some q) (h1 : p.level ≤ x) (h2 : x < q.level) :
    segForward t x = p.volume + (x - p.level) * (q.volume - p.volume) / (q.level - p.level) := by
  induction t generalizing i with
  | nil => simp at hp
  | cons a rest ih =>
    cases rest with
    | nil => simp at hq
    | cons b rest =>
      cases i with
      | zero =>
        simp only [List.getElem?_cons_zero, Nat.zero_add, List.getElem?_cons_succ, Option.some.injEq] at hp hq
        subst hp hq
        rw [segForward, if_pos h2]
      | succ i =>
        rw [List.getElem?_cons_succ] at hp hq
        have hb := head_le_of_mem (pointsOrdered_tail ho) (List.mem_of_getElem? hp)
        rw [segForward, if_neg (by omega)]
        exact ih i (pointsOrdered_tail ho) hp hq

/-- R22: in the first segment whose upper point holds at least the volume the level is interpolated. -/
theorem segInverse_between (t : List StrapPoint) (i : Nat) (p q : StrapPoint) (x : Nat)
    (hp : t[i]? = some p) (hq : t[i + 1]? = some q) (h1 : ∀ j r, j ≤ i → t[j]? = some r → r.volume < x) (h2 : x ≤ q.volume) :
    segInverse t x = p.level + (x - p.volume) * (q.level - p.level) / (q.volume - p.volume) := by
  induction t generalizing i with
  | nil => simp at hp
  | cons a rest ih =>
    cases rest with
    | nil => simp at hq
    | cons b rest =>
      cases i with
      | zero =>
        simp only [List.getElem?_cons_zero, Nat.zero_add, List.getElem?_cons_succ, Option.some.injEq] at hp hq
        subst hp hq
        rw [segInverse, if_pos h2]
      | succ i =>
        rw [List.getElem?_cons_succ] at hp hq
        have hb := h1 1 b (by omega) rfl
        rw [segInverse, if_neg (by omega)]
        exact ih i hp hq fun j r hj hr => h1 (j + 1) r (by omega) hr

section
variable (p : StrapPoint) (t : List StrapPoint) (x : Nat)

theorem volumeAt_of_le_first (h : x ≤ p.level) : volumeAt (p :: t) x = some p.volume := by
  rw [volumeAt, if_pos h]

theorem volumeAt_of_first_lt (h : p.level < x) : volumeAt (p :: t) x = some (segForward (p :: t) x) := by
  rw [volumeAt, if_neg (by omega)]

theorem levelAt_of_le_first (h : x ≤ p.volume) : levelAt (p :: t) x = some p.level := by
  rw [levelAt, if_pos h]

theorem levelAt_of_first_lt (h : p.volume < x) : levelAt (p :: t) x = some (segInverse (p :: t) x) := by
  rw [levelAt, if_neg (by omega)]

end

/-- R21: the volume between two neighbouring points of a table in force. -/
theorem volumeAt_between (t : List StrapPoint) (i : Nat) (p q : StrapPoint) (x : Nat) (ho : pointsOrdered t = true)
    (hp : t[i]? = some p) (hq : t[i + 1]? = some q) (h1 : p.level ≤ x) (h2 : x < q.level) :
    volumeAt t x = some (p.volume + (x - p.level) * (q.volume - p.volume) / (q.level - p.level)) := by
  cases t with
  | nil => simp at hp
  | cons a rest =>
    by_cases hx : x ≤ a.level
    · cases i with
      | zero =>
        obtain rfl : a = p := by simpa using hp
        rw [volumeAt_of_le_first a rest x hx, show x - a.level = 0 by omega]
        simp
      | succ i =>
        have := head_lt_of_mem_tail ho (List.mem_of_getElem? (List.getElem?_cons_succ ▸ hp))
        omega
    · rw [volumeAt_of_first_lt a rest x (by omega), segForward_between _ i p q x ho hp hq h1 h2]

/-- R22: the level in the first segment that reaches the volume. -/
theorem levelAt_between (t : List StrapPoint) (i : Nat) (p q : StrapPoint) (x : Nat)
    (hp : t[i]? = some p) (hq : t[i + 1]? = some q) (h1 : ∀ j r, j ≤ i → t[j]? = some r → r.volume < x) (h2 : x ≤ q.volume) :
    levelAt t x = some (p.level + (x - p.volume) * (q.level - p.level) / (q.volume - p.volume)) := by
  cases t with
  | nil => simp at hp
  | cons a rest =>
    rw [levelAt_of_first_lt a rest x (h1 0 a (by omega) rfl), segInverse_between _ i p q x hp hq h1 h2]

/-- R21: at the last point's level or above, the last point's volume. -/
theorem volumeAt_of_last_le (t : List StrapPoint) (last : StrapPoint) (x : Nat) (ho : pointsOrdered t = true) (hn : 2 ≤ t.length)
    (hl : t.getLast? = some last) (hx : last.level ≤ x) : volumeAt t x = some last.volume := by
  obtain ⟨p, q, rest, rfl⟩ : ∃ p q rest, t = p :: q :: rest := by
    match t, hn with
    | p :: q :: rest, _ => exact ⟨p, q, rest, rfl⟩
  have hmem : last ∈ q :: rest := List.mem_of_getLast? (List.getLast?_cons_cons ▸ hl)
  have := head_lt_of_mem_tail ho hmem
  rw [volumeAt_of_first_lt p _ x (by omega), segForward_of_last _ last x ho hl hx]

/-- R22: above the last point's volume, the last point's level. -/
theorem levelAt_of_last_lt (t : List StrapPoint) (last : StrapPoint) (x : Nat) (ho : pointsOrdered t = true)
    (hl : t.getLast? = some last) (hx : last.volume < x) : levelAt t x = some last.level := by
  cases t with
  | nil => simp at hl
  | cons p rest =>
    have := head_le_of_mem ho (List.mem_of_getLast? hl)
    rw [levelAt_of_first_lt p rest x (by omega), segInverse_of_last _ last x ho hl hx]

end Sys2Proof.Machine

section
open Sys2Proof Sys2Proof.Machine

/-- Settles O10, by the cases of the class of reading and of the health before. -/
theorem healthTable : Obligations.HealthTable := by
  intro c flat h st level
  refine ⟨nextHealth_stale .., nextHealth_range .., congrArg Prod.fst (nextHealth_absent ..), nextHealth_fresh _ _ _ _ _, ?_, ?_, ?_⟩
  · rintro rfl
    exact nextHealth_warming ..
  · rintro rfl
    rw [nextHealth_good]
    cases flat <;> rfl
  · rintro ref rfl href
    exact nextHealth_suspectFlat _ _ _ _ ref href

/-- Settles O11, segment by segment: below the first point, between two neighbours, at or above the last. -/
theorem strapConversions : Obligations.StrapConversions := by
  refine ⟨fun table x ho hn => ⟨?_, ?_, ?_⟩, fun x => ⟨rfl, rfl⟩, fun table => ⟨rfl, rfl⟩⟩
  · intro first hf
    obtain ⟨rest, rfl⟩ := List.head?_eq_some_iff.1 hf
    exact ⟨volumeAt_of_le_first _ _ x, levelAt_of_le_first _ _ x⟩
  · exact fun last hl => ⟨volumeAt_of_last_le _ last x ho hn hl, levelAt_of_last_lt _ last x ho hl⟩
  · exact fun i p q hp hq => ⟨volumeAt_between _ i p q x ho hp hq, levelAt_between _ i p q x hp hq⟩

end
end

section
/-! PROOFS. Requests that only read, and the fields of the STATUS_GET body at their offsets (R190, section 10.7). -/
namespace Sys2Proof.Machine

/-- A request without a body that finds the Service Port free and only reads is answered with the body of its owner. -/
theorem request_reads (kind tag : Byte) (body : List Byte) (s : State) (hs : s.free) (hk : bodyForm kind = some (.exact 0))
    (hw : waitsForCommit kind = false) (ho : owner kind 0 [] s = (.accept body, s)) :
    request kind tag [] s = s.answered (kind ||| 0x80) tag body := by
  have hj : judgeRequest ⟨kind, tag, fieldBytes []⟩ s = (.accept body, s) := by
    rw [judgeRequest_owner s kind tag [] (.exact 0) hk rfl (by rw [hw]; rfl)]
    exact ho
  rw [request, placeRequest_free s _ hs, hj, placeReply_accept]

/-! ### The status flags -/

theorem ofLsbBits_cons (b : Bool) (bits : List Bool) : ofLsbBits (b :: bits) = 2 * ofLsbBits bits + b.toNat := rfl

/-- A number made of bits, least significant first, has them at their places. -/
theorem testBit_ofLsbBits (bits : List Bool) (i : Nat) : (ofLsbBits bits).testBit i = bits.getD i false := by
  induction bits generalizing i with
  | nil => simp [ofLsbBits]
  | cons b bits ih =>
    rw [ofLsbBits_cons]
    cases i with
    | zero => cases b <;> simp [Nat.testBit_zero, Nat.add_mod]
    | succ i =>
      have hhalf : (2 * ofLsbBits bits + b.toNat) / 2 = ofLsbBits bits := by
        have := b.toNat_lt
        omega
      rw [Nat.testBit_succ, hhalf, ih, List.getD_cons_succ]

/-- The flag at each bit of the status flags. -/
theorem statusFlags_getLsbD (s : State) (i : Nat) (hi : i < 8) : s.statusFlags.getLsbD i =
    [s.sst.writing.isSome, s.tck.time.isSome, s.ifm.stall, s.ivd.forceClose, !s.ivd.faults.isEmpty, s.fsq.hold, s.ofg.blindFlag,
      s.lmu.sample.disagree].getD i false := by
  rw [State.statusFlags, BitVec.getLsbD_ofNat, testBit_ofLsbBits]
  simp [hi]

/-! ### The body of STATUS_GET -/

/-- A 4-byte field within a body. -/
def atWord (w : Word) (rest : List Byte) : List Byte :=
  w.extractLsb' 24 8 :: w.extractLsb' 16 8 :: w.extractLsb' 8 8 :: w.extractLsb' 0 8 :: rest

/-- A 2-byte field within a body. -/
def atHalf (w : BitVec 16) (rest : List Byte) : List Byte := w.extractLsb' 8 8 :: w.extractLsb' 0 8 :: rest

theorem wordBytes_append (w : Word) (rest : List Byte) : wordBytes w ++ rest = atWord w rest := rfl
theorem halfBytes_append (w : BitVec 16) (rest : List Byte) : halfBytes w ++ rest = atHalf w rest := rfl
theorem atWord_append (w : Word) (l rest : List Byte) : atWord w l ++ rest = atWord w (l ++ rest) := rfl
theorem atHalf_append (w : BitVec 16) (l rest : List Byte) : atHalf w l ++ rest = atHalf w (l ++ rest) := rfl

/-- The status body field after field, as section 10.7 lays it out. -/
theorem statusBody_fields (s : State) : s.statusBody =
    atWord s.now (byteOf s.sst.part.code :: s.statusFlags :: byteOf s.ofg.state.code :: byteOf (tripCauseCode s.ofg.tripCause) ::
    byteOf (sourceCode s.lmu.sample.active) :: atHalf (levelHalf s.lmu.sample.activeLevel)
    (atHalf (levelHalf s.lmu.sample.guardLevel) (atWord (volumeField s.lmu.sample.planningVolume)
    (byteOf s.ivd.state.code :: byteOf s.tck.band.code :: byteOf s.fsq.seq.code ::
    byteOf ((s.working.map fun w => w.1.code).getD 0) :: byteOf s.fsq.rows.activeCount ::
    atWord (volumeField (s.working.map Prod.snd)) (atWord (volumeField s.fpl.allowance)
    (byteOf s.sli.state.code :: byteOf (acceptedCode s.sli.accepted) :: byteOf s.sli.outgoing.code ::
    atHalf (signedHalf s.fhc.temps.ambient.reading) (byteOf s.fhc.season.code :: byteOf (pathCode s.fhc.pathProven) ::
    byteOf s.fhc.zones.riser.state.code :: byteOf s.fhc.zones.overflow.state.code :: byteOf s.fhc.zones.pit.state.code ::
    byteOf s.fhc.zones.sensor.state.code :: atHalf (natHalf s.powerUsed)
    (byteOf s.trc.queue.length :: byteOf s.cfg.history.mode.code :: byteOf s.trc.trigger.code ::
    atHalf (natHalf s.svp.gapErrors) (atHalf (natHalf s.svp.checkErrors) (atHalf (natHalf s.svp.lengthErrors)
    (atHalf (natHalf s.svp.dropped) [byteOf s.svp.lost]))))))))))) := by
  simp only [State.statusBody, allZones, List.map_cons, List.map_nil, List.flatMap_cons, List.flatMap_nil, List.append_nil,
    List.cons_append, List.nil_append, wordBytes_append, halfBytes_append, atWord_append,
    atHalf_append, Zones.get]

theorem byteOf_workingKind (w : Option (Kind × Nat)) : byteOf ((w.map fun w => w.1.code).getD 0) =
    BitVec.ofNat 8 (match w with
      | some (k, _) => k.code
      | none => 0) := by
  cases w <;> rfl

theorem byteOf_pathCode (proven : Bool) : byteOf (pathCode proven) = if proven then 1 else 0 := by
  cases proven <;> rfl

end Sys2Proof.Machine

section
open Sys2Proof Sys2Proof.Machine

/-- Settles O46: each owner's body is its reply's, and the status body is read off at its offsets. -/
theorem getRequests : Obligations.GetRequests := by
  refine ⟨fun s tag hs => ?_, fun s => ?_⟩
  · have reads (kind : Byte) (body : List Byte) (hk : bodyForm kind = some (.exact 0)) (hw : waitsForCommit kind = false)
        (ho : owner kind 0 [] s = (.accept body, s)) :
        (.next (request kind tag [] s) : Result) = .next (s.answered (kind ||| 0x80) tag body) := by
      rw [request_reads kind tag body s hs hk hw ho]
    exact ⟨reads 0x01 _ rfl rfl rfl, reads 0x02 _ rfl rfl rfl, reads 0x04 _ rfl rfl rfl, reads 0x06 _ rfl rfl rfl,
      reads 0x0C _ rfl rfl rfl, reads 0x0F _ rfl rfl rfl, reads 0x12 _ rfl rfl rfl, reads 0x14 _ rfl rfl rfl,
      reads 0x16 _ rfl rfl rfl, reads 0x17 _ rfl rfl rfl, reads 0x1D _ rfl rfl rfl⟩
  · intro b half
    have hb : b = _ := statusBody_fields s
    rw [byteOf_workingKind, byteOf_pathCode] at hb
    clear_value b
    subst hb
    refine ⟨rfl, rfl, rfl, ?_, rfl, rfl, rfl, rfl, rfl, rfl, rfl, rfl, rfl, rfl, rfl, rfl, rfl, rfl, rfl, rfl, rfl, rfl, rfl, rfl,
      rfl, rfl, rfl, rfl, rfl, rfl, rfl, rfl, rfl, rfl, rfl, rfl⟩
    intro f hf
    obtain rfl : s.statusFlags = f := Option.some.inj hf
    exact ⟨statusFlags_getLsbD s 0 (by decide), statusFlags_getLsbD s 1 (by decide), statusFlags_getLsbD s 2 (by decide),
      statusFlags_getLsbD s 3 (by decide), statusFlags_getLsbD s 4 (by decide), statusFlags_getLsbD s 5 (by decide),
      statusFlags_getLsbD s 6 (by decide), statusFlags_getLsbD s 7 (by decide)⟩

end
end

section
/-! PROOFS. The sample (R3 to R19): each field of what `Lmu.formSample` forms in terms of the others, and the record after a sample. -/
namespace Sys2Proof.Machine

/-! ### Levels and classes of reading (R3, R4, R7) -/

section
variable (c : LmuSettings)

theorem headLevel_of_out (n : Nat) (h : (n : Int) < (c.aZero : Int) - 40 ∨ (c.aFull : Int) + 40 < n) : headLevel c n = none := if_pos h

theorem headLevel_of_in (n : Nat) (h : ¬((n : Int) < (c.aZero : Int) - 40 ∨ (c.aFull : Int) + 40 < n)) :
    headLevel c n = some (clamp 0 20000 ((c.aOffsetMm : Int) +
      Int.fdiv (((n : Int) - (c.aZero : Int)) * (c.aSpanMm : Int)) ((c.aFull : Int) - (c.aZero : Int)))).toNat := if_neg h

theorem rangeLevel_of_out (d : Nat) (h : d < 300 ∨ 20000 < d) : rangeLevel c d = none := if_pos h

theorem rangeLevel_of_in (d : Nat) (h1 : 300 ≤ d) (h2 : d ≤ 20000) :
    rangeLevel c d = some (clamp 0 20000 ((c.bMountMm : Int) - d)).toNat := if_neg (by omega)

end

section
variable (staleS : Nat) (now : Word) (convert : Nat → Option Nat) (r : Reading)

theorem classify_stale (h : staleS < elapsed now r.stamp) : classify staleS now convert (some r) = .stale := if_pos h

theorem classify_range (h : elapsed now r.stamp ≤ staleS) (hc : convert r.raw = none) :
    classify staleS now convert (some r) = .range := by
  rw [classify, if_neg (by omega), hc]

theorem classify_level (h : elapsed now r.stamp ≤ staleS) : (classify staleS now convert (some r)).level = convert r.raw := by
  rw [classify, if_neg (by omega)]
  cases convert r.raw <;> rfl

end

theorem ReadClass.level_eq_some {cls : ReadClass} {v : Nat} (h : cls.level = some v) : cls = .valid v := by
  cases cls with
  | valid l => exact congrArg _ (Option.some.inj h)
  | absent | stale | range => cases h

/-! ### The flat-line window (R10, R11) -/

theorem foldl_max_of_bounds (l : List Nat) (a high : Nat) (ha : a ≤ high) (hl : ∀ y ∈ l, y ≤ high) (hm : high ∈ a :: l) :
    l.foldl max a = high := by
  induction l generalizing a with
  | nil => simpa [eq_comm] using hm
  | cons b l ih =>
    have hb := hl b List.mem_cons_self
    refine ih (max a b) (Nat.max_le.2 ⟨ha, hb⟩) (fun y hy => hl y (List.mem_cons_of_mem _ hy)) ?_
    simp only [List.mem_cons] at hm ⊢
    obtain rfl | rfl | hm := hm
    · left; omega
    · left; omega
    · exact .inr hm

theorem foldl_min_of_bounds (l : List Nat) (a low : Nat) (ha : low ≤ a) (hl : ∀ y ∈ l, low ≤ y) (hm : low ∈ a :: l) :
    l.foldl min a = low := by
  induction l generalizing a with
  | nil => simpa [eq_comm] using hm
  | cons b l ih =>
    have hb := hl b List.mem_cons_self
    refine ih (min a b) (Nat.le_min.2 ⟨ha, hb⟩) (fun y hy => hl y (List.mem_cons_of_mem _ hy)) ?_
    simp only [List.mem_cons] at hm ⊢
    obtain rfl | rfl | hm := hm
    · left; omega
    · left; omega
    · exact .inr hm

/-- R10: the spread of a window whose lowest and highest levels are known. -/
theorem windowSpread_of_bounds (ring : List (Option Nat)) (low high : Nat) (hlow : some low ∈ ring) (hhigh : some high ∈ ring)
    (h : ∀ y, some y ∈ ring → low ≤ y ∧ y ≤ high) : windowSpread ring = high - low := by
  have hmem : ∀ y, y ∈ ring.filterMap id ↔ some y ∈ ring := by simp
  rw [← hmem] at hlow hhigh
  simp only [← hmem] at h
  unfold windowSpread
  generalize ring.filterMap id = levels at *
  cases levels with
  | nil => cases hlow
  | cons l rest =>
    obtain ⟨hl1, hl2⟩ := h l List.mem_cons_self
    show rest.foldl max l - rest.foldl min l = _
    rw [foldl_max_of_bounds rest l high hl2 (fun y hy => (h y (List.mem_cons_of_mem _ hy)).2) hhigh,
      foldl_min_of_bounds rest l low hl1 (fun y hy => (h y (List.mem_cons_of_mem _ hy)).1) hlow]

theorem getLastD_append_singleton {α : Type} (l : List α) (x d : α) : (l ++ [x]).getLastD d = x := by
  rw [List.getLastD_eq_getLast?, List.getLast?_concat, Option.getD_some]

theorem windowPulses_of_ends (oldest newest : Word) (between : List Word) :
    windowPulses (oldest :: (between ++ [newest])) = (newest - oldest).toNat := by
  rw [windowPulses, getLastD_append_singleton]

/-- R11: the check of a flat line as the manual states it. -/
def FlatLine (c : LmuSettings) (own other : List (Option Nat)) (metered : Prop) : Prop :=
  own.length = c.flatWindow ∧ (∀ y, y ∈ own → y.isSome = true) ∧ windowSpread own ≤ c.flatBandMm ∧
    (metered ∨ 3 * c.flatBandMm < windowSpread other)

theorem flatLine_iff (c : LmuSettings) (own other : List (Option Nat)) (metered : Bool) :
    flatLine c own other metered = true ↔ FlatLine c own other (metered = true) := by
  simp [flatLine, FlatLine, and_assoc]

/-! ### Health, source and rate (R8, R13, R14, R19) -/

theorem nextHealth_ring (c : LmuSettings) (flat : Bool) (h : Health) (st : SensorState) (cls : ReadClass) :
    (nextHealth c flat h st cls).2.ring = st.ring := by
  unfold nextHealth
  repeat' split
  all_goals rfl

section
variable (c : LmuSettings) (flat : Bool) (h : Health) (st : SensorState) (cls : ReadClass)

theorem gradeSensor_health : (gradeSensor c flat h st cls).1 = (nextHealth c flat h st cls).1 := rfl
theorem gradeSensor_flatRef : (gradeSensor c flat h st cls).2.flatRef = (nextHealth c flat h st cls).2.flatRef := rfl
theorem gradeSensor_ring : (gradeSensor c flat h st cls).2.ring = st.ring := nextHealth_ring ..
theorem gradeSensor_goodRun : (gradeSensor c flat h st cls).2.goodRun =
    if (gradeSensor c flat h st cls).1 = .good then min 600 (st.goodRun + 1) else 0 := rfl

/-- R11: a GOOD sensor with a reading becomes SUSPECT, with the level as its reference, exactly when its line is flat. -/
theorem gradeSensor_of_good (v : Nat) (hc : cls.level = some v) :
    (flat = true → (gradeSensor c flat .good st cls).1 = .suspectFlat ∧ (gradeSensor c flat .good st cls).2.flatRef = some v) ∧
    (flat = false → (gradeSensor c flat .good st cls).1 = .good) := by
  obtain rfl := ReadClass.level_eq_some hc
  rw [gradeSensor_health, gradeSensor_flatRef, nextHealth_good]
  cases flat <;> simp

end

section
variable (c : LmuSettings) (before : Option Sensor) (ha hb : Health) (run : Nat)

/-- R14: a GOOD backup stays the source until the primary has been GOOD long enough. -/
theorem selectSource_of_backup (h : before = some c.primary.other) (hg : pick c.primary.other ha hb = .good) :
    selectSource c before ha hb run =
      if c.revertive = true ∧ c.revertSamples ≤ run then some c.primary else some c.primary.other := by
  rw [selectSource, if_pos ⟨h, hg⟩, h]

theorem selectSource_of_fresh (h : ¬(before = some c.primary.other ∧ pick c.primary.other ha hb = .good)) :
    selectSource c before ha hb run = freshSource c.primary ha hb := if_neg h

end

theorem rateOf_of_not_full (c : LmuSettings) (ring : List Nat) (h : ring.length ≠ c.rateSpan + 1) : rateOf c ring = none := by
  cases ring with
  | nil => rfl
  | cons x xs => exact if_neg h

theorem rateOf_of_full (c : LmuSettings) (oldest newest : Nat) (between : List Nat)
    (h : (oldest :: (between ++ [newest])).length = c.rateSpan + 1) :
    rateOf c (oldest :: (between ++ [newest])) = some (clamp (-9999) 9999
      (Int.tdiv (((newest : Int) - (oldest : Int)) * 60) ((c.rateSpan : Int) * (c.samplePeriodS : Int)))) := by
  rw [rateOf, if_pos h, getLastD_append_singleton]

/-! ### What a sample forms (R5) -/

section
variable (c : LmuSettings) (table : List StrapPoint) (now pulses : Word) (lpp : Nat) (stall : Bool) (l : Lmu)

/-- R11: the meter corroborates movement in the window. -/
def meteredIn (pulseRing : List Word) : Bool := decide (c.flatFlowL ≤ windowPulses pulseRing * lpp) && !stall

theorem formSample_levels :
    (l.formSample c table now pulses lpp stall).sample.levelA = (classify c.staleS now (headLevel c) l.a.held).level ∧
    (l.formSample c table now pulses lpp stall).sample.levelB = (classify c.staleS now (rangeLevel c) l.b.held).level := ⟨rfl, rfl⟩

theorem formSample_rings :
    let x := l.formSample c table now pulses lpp stall
    x.a.ring = push c.flatWindow l.a.ring x.sample.levelA ∧ x.b.ring = push c.flatWindow l.b.ring x.sample.levelB ∧
      x.pulseRing = push c.flatWindow l.pulseRing pulses := ⟨gradeSensor_ring .., gradeSensor_ring .., rfl⟩

/-- R8: the grading of sensor A at a sample. -/
theorem formSample_gradeA :
    let x := l.formSample c table now pulses lpp stall
    (x.sample.healthA, x.a) =
      gradeSensor c (flatLine c x.a.ring x.b.ring (meteredIn c lpp stall x.pulseRing)) l.sample.healthA
        { l.a with ring := push c.flatWindow l.a.ring x.sample.levelA } (classify c.staleS now (headLevel c) l.a.held) := by
  intro x
  obtain ⟨ha, hb, hp⟩ : _ ∧ _ ∧ _ := formSample_rings c table now pulses lpp stall l
  rw [show x.a.ring = _ from ha, show x.b.ring = _ from hb, show x.pulseRing = _ from hp]
  rfl

/-- R8: the grading of sensor B at a sample. -/
theorem formSample_gradeB :
    let x := l.formSample c table now pulses lpp stall
    (x.sample.healthB, x.b) =
      gradeSensor c (flatLine c x.b.ring x.a.ring (meteredIn c lpp stall x.pulseRing)) l.sample.healthB
        { l.b with ring := push c.flatWindow l.b.ring x.sample.levelB } (classify c.staleS now (rangeLevel c) l.b.held) := by
  intro x
  obtain ⟨ha, hb, hp⟩ : _ ∧ _ ∧ _ := formSample_rings c table now pulses lpp stall l
  rw [show x.a.ring = _ from ha, show x.b.ring = _ from hb, show x.pulseRing = _ from hp]
  rfl

theorem formSample_active :
    let x := l.formSample c table now pulses lpp stall
    x.sample.active = selectSource c l.sample.active x.sample.healthA x.sample.healthB (pick c.primary x.a.goodRun x.b.goodRun) ∧
    x.sample.swap = decide (x.sample.active ≠ l.sample.active) ∧
    x.sample.activeLevel = x.sample.active.bind fun y => pick y x.sample.levelA x.sample.levelB := ⟨rfl, rfl, rfl⟩

/-- R18: the accumulator and the smoothed level. -/
theorem formSample_smoothed :
    let x := l.formSample c table now pulses lpp stall
    x.sample.smoothed = (if x.sample.active.isSome then some (Int.fdiv x.acc 16).toNat else none) ∧
    x.seeded = (l.seeded || x.sample.activeLevel.isSome) ∧
    (x.sample.activeLevel = none → x.acc = l.acc) ∧
    ∀ v, x.sample.activeLevel = some v →
      x.acc = if l.seeded = false ∨ x.sample.swap = true then 16 * (v : Int) else smoothStep c.smoothK l.acc v := by
  intro x
  have hacc : x.acc = match x.sample.activeLevel with
      | some v => if !l.seeded || x.sample.swap then 16 * (v : Int) else smoothStep c.smoothK l.acc v
      | none => l.acc := rfl
  refine ⟨rfl, rfl, fun h => by rw [hacc, h], fun v h => ?_⟩
  rw [hacc, h]
  simp

/-- R19: the rate ring and the rate. -/
theorem formSample_rate :
    let x := l.formSample c table now pulses lpp stall
    x.sample.rate = rateOf c x.rateRing ∧
    x.rateRing = match x.sample.smoothed with
      | some v => push (c.rateSpan + 1) (if x.sample.swap then [] else l.rateRing) v
      | none => if x.sample.swap then [] else l.rateRing := ⟨rfl, rfl⟩

/-- R17: the sensors are apart at a sample. -/
def SampleRecord.apart (x : SampleRecord) : Bool :=
  decide (x.healthA = .good) && decide (x.healthB = .good) && decide (c.agreeMm < absDiff (x.levelA.getD 0) (x.levelB.getD 0))

theorem formSample_disagree :
    let x := l.formSample c table now pulses lpp stall
    x.disagreeCount = (if x.sample.apart c then l.disagreeCount + 1 else 0) ∧
    x.sample.disagree = (x.sample.apart c && (l.sample.disagree || decide (c.agreeSamples ≤ x.disagreeCount))) := ⟨rfl, rfl⟩

theorem formSample_volumes :
    let x := (l.formSample c table now pulses lpp stall).sample
    x.guardLevel = guardLevelOf x.healthA x.healthB x.levelA x.levelB ∧
    x.smoothedVolume = x.smoothed.bind (volumeAt table) ∧ x.guardVolume = x.guardLevel.bind (volumeAt table) ∧
    x.planningVolume = if x.disagree then x.guardVolume else x.smoothedVolume := ⟨rfl, rfl, rfl, rfl⟩

end

end Sys2Proof.Machine
end

section
/-! PROOFS. What the Fill Sequencer, the valve and the heating leave alone beside `State.fixed`: the guard record but for the close
result of a running test, the pulse counts, and the heating record but for the zones and the budget of the last run. -/
namespace Sys2Proof.Machine

/-- The guard record without the close result of a running test, which is all that a move of the valve writes into it (R49). -/
def Ofg.exceptClose (g : Ofg) : Ofg := { g with test := g.test.map fun t => { t with closeResult := .notIssued } }

/-- The heating record without what a run of the arbitration writes (R159). -/
def Fhc.exceptRun (f : Fhc) : Fhc := { f with zones := ⟨{}, {}, {}, {}⟩, lastBudget := none }

/-- The part of the guard, the meter and the heating that no fill and no move of the valve changes. -/
structure Held where
  ofg : Ofg
  pulses : Word
  dayPulses : Nat
  stall : Bool
  fhc : Fhc

def State.held (s : State) : Held := ⟨s.ofg.exceptClose, s.ifm.pulses, s.ifm.dayPulses, s.ifm.stall, s.fhc.exceptRun⟩

theorem held_iff (s t : State) : t.held = s.held ↔
    t.ofg.exceptClose = s.ofg.exceptClose ∧ t.ifm.pulses = s.ifm.pulses ∧ t.ifm.dayPulses = s.ifm.dayPulses ∧
    t.ifm.stall = s.ifm.stall ∧ t.fhc.exceptRun = s.fhc.exceptRun := by
  simp [State.held]

/-- What two guard records that differ in a test's close result agree in. -/
theorem exceptClose_fields {g h : Ofg} (e : g.exceptClose = h.exceptClose) :
    g.state = h.state ∧ g.blindFlag = h.blindFlag ∧ g.budget = h.budget ∧ g.ceilingMm = h.ceilingMm ∧
    g.ceilingVolume = h.ceilingVolume ∧ g.granted = h.granted ∧ g.heldSpill = h.heldSpill ∧ g.spillCount = h.spillCount ∧
    g.test.isSome = h.test.isSome := by
  cases g
  cases h
  simp only [Ofg.exceptClose, Ofg.mk.injEq] at e
  obtain ⟨hstate, hblind, -, -, -, hspillCount, -, -, -, -, -, -, -, -, hbudget, hmm, hvolume, hgranted, -, htest, -, -, hspill⟩ := e
  exact ⟨hstate, hblind, hbudget, hmm, hvolume, hgranted, hspill, hspillCount, by simpa using congrArg Option.isSome htest⟩

/-- What two heating records that differ by runs agree in. -/
theorem exceptRun_fields {f g : Fhc} (e : f.exceptRun = g.exceptRun) :
    f.temps = g.temps ∧ f.season = g.season ∧ f.pathProven = g.pathProven ∧ f.startHold = g.startHold := by
  cases f
  cases g
  simp only [Fhc.exceptRun, Fhc.mk.injEq] at e
  obtain ⟨htemps, hseason, -, -, -, -, hpath, -, hhold, -⟩ := e
  exact ⟨htemps, hseason, hpath, hhold⟩

theorem handTo_held (s : State) (receivers : List Block) (take : Block → State → State)
    (h : ∀ b ∈ receivers, ∀ t, (take b t).held = t.held) : (s.handTo receivers take).held = s.held :=
  handTo_frame State.held s receivers take h

theorem foldl_held {α : Type} (l : List α) (f : State → α → State) (h : ∀ t, ∀ a ∈ l, (f t a).held = t.held) (s : State) :
    (l.foldl f s).held = s.held := by
  induction l generalizing s with
  | nil => rfl
  | cons a l ih =>
    rw [List.foldl_cons, ih (fun t b hb => h t b (List.mem_cons_of_mem _ hb)), h s a List.mem_cons_self]

section
variable (s : State)

@[simp] theorem held_withLmu (x) : (s.withLmu x).held = s.held := rfl
@[simp] theorem held_withIvd (x) : (s.withIvd x).held = s.held := rfl
@[simp] theorem held_withTck (x) : (s.withTck x).held = s.held := rfl
@[simp] theorem held_withFpl (x) : (s.withFpl x).held = s.held := rfl
@[simp] theorem held_withFsq (x) : (s.withFsq x).held = s.held := rfl
@[simp] theorem held_withSli (x) : (s.withSli x).held = s.held := rfl
@[simp] theorem held_withTrc (x) : (s.withTrc x).held = s.held := rfl
@[simp] theorem held_withSvp (x) : (s.withSvp x).held = s.held := rfl
@[simp] theorem held_withSst (x) : (s.withSst x).held = s.held := rfl
@[simp] theorem raise_held (c f) : (s.raise c f).held = s.held := rfl

/-! ### Heating, meter, planner, store -/

@[simp] theorem setZone_held (z r) : (setZone z r s).held = s.held := rfl
@[simp] theorem powerRun_held : (powerRun s).held = s.held := by
  unfold powerRun; split <;> rfl
@[simp] theorem setBoost_held (z b) : (setBoost z b s).held = s.held := by
  unfold setBoost; split <;> simp
@[simp] theorem heatingSample_held : (heatingSample s).held = s.held := setBoost_held ..
@[simp] theorem heatingSequence_held : (heatingSequence s).held = s.held := setBoost_held ..
@[simp] theorem judgeArm_held : (judgeArm s).held = s.held := by
  unfold judgeArm; dsimp only; (repeat' split) <;> rfl
@[simp] theorem plannerFillOpen_held : (plannerFillOpen s).held = s.held := rfl
@[simp] theorem plannerFillClose_held (t m) : (plannerFillClose t m s).held = s.held := by
  unfold plannerFillClose; dsimp only; (repeat' split) <;> rfl
@[simp] theorem partNotice_held (o) : (partNotice o s).held = s.held := rfl
@[simp] theorem judgeRest_held : (judgeRest s).held = s.held := by
  unfold judgeRest; split <;> simp
@[simp] theorem storeSequence_held (b) : (storeSequence b s).held = s.held := by
  unfold storeSequence; split <;> simp
@[simp] theorem enterSeq_held (q) : (enterSeq q s).held = s.held := by
  unfold enterSeq; rw [handTo_held _ _ _ fun b _ t => storeSequence_held t b, held_withFsq]

/-! ### Valve commands and their events -/

@[simp] theorem setWish_held (c) : (setWish c s).held = s.held := rfl
@[simp] theorem setHold_held (h) : (setHold h s).held = s.held := rfl
@[simp] theorem valveClose_held : (valveClose s).1.held = s.held := by
  rw [valveClose_writes, held_withSvp, held_withIvd]
@[simp] theorem valveOpen_held : (valveOpen s).2.1.held = s.held := by
  rw [valveOpen_writes, held_withIvd]

/-- An event other than a fault report. -/
def ValveEvent.quiet : ValveEvent → Bool
  | .fault _ => false
  | _ => true

theorem valveClose_quiet : ∀ e ∈ (valveClose s).2, e.quiet = true := by
  unfold valveClose
  dsimp only
  (repeat' split) <;> simp [ValveEvent.quiet]

theorem valveOpen_quiet : ∀ e ∈ (valveOpen s).2.2, e.quiet = true := by
  unfold valveOpen
  dsimp only
  (repeat' split) <;> simp [ValveEvent.quiet]

@[simp] theorem testReport_held (r) : (testReport r s).held = s.held := by
  unfold testReport
  repeat' split
  · rename_i t ht _
    simp [State.held, Ofg.exceptClose, ht]
  all_goals rfl

theorem guardValve_held (e : ValveEvent) (he : e.quiet = true) : (guardValve e s).held = s.held := by
  unfold guardValve
  split <;> simp_all [ValveEvent.quiet]

theorem takeValveEvent_held (f : ValveEvent → State → State) (hf : ∀ e t, e.quiet = true → (f e t).held = t.held) (e : ValveEvent)
    (he : e.quiet = true) (b) : (takeValveEvent f e b s).held = s.held := by
  unfold takeValveEvent
  split
  · exact hf e s he
  · exact guardValve_held s e he
  · split <;> simp
  · split <;> simp
  · rfl

theorem handValveEvents_held (f : ValveEvent → State → State) (hf : ∀ e t, e.quiet = true → (f e t).held = t.held)
    (es : List ValveEvent) (hes : ∀ e ∈ es, e.quiet = true) : (handValveEvents f es s).held = s.held :=
  foldl_held _ _ (fun t e he => handTo_held t _ _ fun b _ u => takeValveEvent_held u f hf e (hes e he) b) s

/-! ### Fill Sequencer -/

@[simp] theorem setSeqRow_held (k r) : (setSeqRow k r s).held = s.held := rfl
@[simp] theorem onFill_held (g) : (onFill g s).held = s.held := rfl
@[simp] theorem dropRow_held (k) : (dropRow k s).held = s.held := rfl
@[simp] theorem recordEnd_held (c) : (recordEnd c s).held = s.held := rfl
@[simp] theorem retarget_held : (retarget s).held = s.held := by
  unfold retarget; (repeat' split) <;> simp
@[simp] theorem countAttempt_held (k c) : (countAttempt k c s).held = s.held := by
  unfold countAttempt; dsimp only; (repeat' split) <;> simp
@[simp] theorem judgeFailure_held (f) : (judgeFailure f s).held = s.held := by
  unfold judgeFailure; (repeat' split) <;> simp
@[simp] theorem held_fillTally (t) : (s.withIfm { s.ifm with fillTally := t }).held = s.held := rfl
@[simp] theorem closeRecord_held : (closeRecord s).held = s.held := by
  unfold closeRecord; dsimp only; (repeat' split) <;> simp
@[simp] theorem closingValve_held (e) : (closingValve e s).held = s.held := by
  unfold closingValve; (repeat' split) <;> simp
@[simp] theorem closeValve_held : (closeValve s).held = s.held := by
  unfold closeValve
  dsimp only
  rw [handValveEvents_held _ _ (fun e t _ => closingValve_held t e) _ (valveClose_quiet _)]
  simp
@[simp] theorem enterOpening_held : (enterOpening s).held = s.held := by
  unfold enterOpening
  dsimp only
  split
  · rw [handValveEvents_held _ _ (fun _ _ _ => rfl) _ (valveOpen_quiet _)]
    simp
  · simp
@[simp] theorem enterPrepare_held : (enterPrepare s).held = s.held := by
  unfold enterPrepare; dsimp only; (repeat' split) <;> simp
@[simp] theorem startFill_held (k g) : (startFill k g s).held = s.held := by
  unfold startFill
  dsimp only
  rw [enterPrepare_held, raise_held, plannerFillOpen_held]
  rfl
@[simp] theorem startCheck_held : (startCheck s).held = s.held := by
  unfold startCheck; (repeat' split) <;> simp
@[simp] theorem enterClosing_held : (enterClosing s).held = s.held := by
  unfold enterClosing; simp
@[simp] theorem enterReleasing_held : (enterReleasing s).held = s.held := by
  unfold enterReleasing; dsimp only; split <;> simp
@[simp] theorem endFill_held (c) : (endFill c s).held = s.held := by
  unfold endFill; dsimp only; (repeat' split) <;> simp
@[simp] theorem rowsRemoved_held (c) : (rowsRemoved c s).held = s.held := by
  unfold rowsRemoved; split <;> simp
@[simp] theorem enterFilling_held : (enterFilling s).held = s.held := by
  unfold enterFilling; simp
@[simp] theorem enterCalling_held : (enterCalling s).held = s.held := by
  unfold enterCalling; dsimp only; (repeat' split) <;> simp
@[simp] theorem sequenceValve_held (e) : (sequenceValve e s).held = s.held := by
  unfold sequenceValve; (repeat' split) <;> simp
theorem deliverValve_held (r : State × List ValveEvent) (h : ∀ e ∈ r.2, e.quiet = true) : (deliverValve r).held = r.1.held :=
  handValveEvents_held _ _ (fun e t _ => sequenceValve_held t e) _ h
@[simp] theorem deliverClose_held : (deliverValve (valveClose s)).held = s.held := by
  rw [deliverValve_held _ (valveClose_quiet s), valveClose_held]
@[simp] theorem sequencePermission_held (w) : (sequencePermission w s).held = s.held := by
  unfold sequencePermission; split <;> simp
@[simp] theorem sequenceTrip_held : (sequenceTrip s).held = s.held := by
  unfold sequenceTrip; dsimp only; split <;> simp
@[simp] theorem dropReached_held (v) : (dropReached v s).held = s.held :=
  foldl_held _ _ (fun t k _ => by unfold dropIfReached; split <;> simp) s
@[simp] theorem stopCheck_held : (stopCheck s).held = s.held := by
  unfold stopCheck; dsimp only; (repeat' split) <;> simp
@[simp] theorem floorCheck_held : (floorCheck s).held = s.held := by
  unfold floorCheck; (repeat' split) <;> simp
@[simp] theorem sequenceSample_held : (sequenceSample s).held = s.held := by
  unfold sequenceSample; simp
theorem cutRows_held (c) : (Kind.all.foldl (cutRow c) s).held = s.held :=
  foldl_held _ _ (fun t k _ => by unfold cutRow; dsimp only; split <;> simp) s
@[simp] theorem sequenceCut_held (c) : (sequenceCut c s).held = s.held := by
  unfold sequenceCut; dsimp only; split <;> simp [cutRows_held]
@[simp] theorem sequencePath_held : (sequencePath s).held = s.held := by
  unfold sequencePath; split <;> simp
@[simp] theorem cutBelow_held (o n) : (cutBelow o n s).held = s.held := by
  unfold cutBelow; (repeat' split) <;> simp

/-! ### Recorder -/

@[simp] theorem takeTrigger_held (t) : (takeTrigger t s).held = s.held := rfl
@[simp] theorem recordGuardChange_held (o n) : (recordGuardChange o n s).held = s.held := by
  unfold recordGuardChange; split <;> simp
@[simp] theorem judgeWatermark_held : (judgeWatermark s).held = s.held := by
  unfold judgeWatermark; dsimp only; (repeat' split) <;> simp
@[simp] theorem buildHistory_held : (buildHistory s).held = s.held := by
  unfold buildHistory
  dsimp only
  split
  · rw [judgeWatermark_held]; rfl
  · rfl
@[simp] theorem recorderSample_held : (recorderSample s).held = s.held := by
  unfold recorderSample; dsimp only; (repeat' split) <;> simp

end

end Sys2Proof.Machine
end

section
/-! PROOFS. The Overflow Guard's operations at a sample: what they keep of the meter and of the spill switch (R27, R37), and the record that
each leaves. -/
namespace Sys2Proof.Machine

section
variable (s : State)

@[simp] theorem recordGuardChange_ofg (o n) : (recordGuardChange o n s).ofg = s.ofg := by
  unfold recordGuardChange; split <;> rfl
@[simp] theorem recordGuardChange_ifm (o n) : (recordGuardChange o n s).ifm = s.ifm := by
  unfold recordGuardChange; split <;> rfl
@[simp] theorem noticeGuard_ofg (o u) : (noticeGuard o u s).ofg = s.ofg := rfl
@[simp] theorem noticeGuard_ifm (o u) : (noticeGuard o u s).ifm = s.ifm := rfl
@[simp] theorem moveGuard_ofg (n) : (moveGuard n s).ofg = { s.ofg with state := n } := by simp [moveGuard]
@[simp] theorem moveGuard_ifm (n) : (moveGuard n s).ifm = s.ifm := by simp [moveGuard]
@[simp] theorem escalate_ofg (c) : (escalate c s).ofg = { s.ofg with state := .isolate, escalation := some c } := by
  simp [escalate, setHold]
@[simp] theorem escalate_ifm (c) : (escalate c s).ifm = s.ifm := by simp [escalate, setHold]

end

/-! ### The spill switch and the pulse counts at a sample -/

/-- What the guard's work at a sample keeps once its counts are taken: the pulse counts, the held spill state, and the spill count
unless a trip puts it to 0. -/
structure GuardFrame (s t : State) : Prop where
  pulses : t.ifm.pulses = s.ifm.pulses
  dayPulses : t.ifm.dayPulses = s.ifm.dayPulses
  heldSpill : t.ofg.heldSpill = s.ofg.heldSpill
  spillCount : t.ofg.spillCount = s.ofg.spillCount ∨ t.ofg.spillCount = 0

namespace GuardFrame
variable {s t u : State}

theorem refl (s : State) : GuardFrame s s := ⟨rfl, rfl, rfl, .inl rfl⟩

theorem trans (h : GuardFrame s t) (k : GuardFrame t u) : GuardFrame s u where
  pulses := k.pulses.trans h.pulses
  dayPulses := k.dayPulses.trans h.dayPulses
  heldSpill := k.heldSpill.trans h.heldSpill
  spillCount := by
    obtain hk | hk := k.spillCount
    · rw [hk]; exact h.spillCount
    · exact .inr hk

/-- The later step first, so that its end fixes the state between the two. -/
theorem after (k : GuardFrame t u) (h : GuardFrame s t) : GuardFrame s u := h.trans k

theorem ite {c : Prop} [Decidable c] (h : GuardFrame s t) (k : GuardFrame s u) : GuardFrame s (if c then t else u) := by
  split
  · exact h
  · exact k

theorem of_held (h : t.held = s.held) : GuardFrame s t := by
  obtain ⟨hofg, hpulses, hday, -, -⟩ := (held_iff s t).1 h
  obtain ⟨-, -, -, -, -, -, hspill, hcount, -⟩ := exceptClose_fields hofg
  exact ⟨hpulses, hday, hspill, .inl hcount⟩

/-- A write of the guard record that keeps the held spill state and the spill count. -/
theorem of_ofg (hm : t.ifm = s.ifm) (hs : t.ofg.heldSpill = s.ofg.heldSpill)
    (hc : t.ofg.spillCount = s.ofg.spillCount ∨ t.ofg.spillCount = 0) : GuardFrame s t := ⟨by rw [hm], by rw [hm], hs, hc⟩

end GuardFrame

section
variable (s : State)

theorem moveGuard_frame (n) (g : Ofg) (hs : g.heldSpill = s.ofg.heldSpill) (hc : g.spillCount = s.ofg.spillCount) :
    GuardFrame s (moveGuard n (s.withOfg g)) :=
  .of_ofg (by simp) (by simpa using hs) (.inl (by simpa using hc))

theorem escalate_frame (c) : GuardFrame s (escalate c s) := .of_ofg (by simp) (by simp) (.inl (by simp))

theorem endTest_frame (r) : GuardFrame s (endTest r s) := by
  unfold endTest
  split
  · exact .refl s
  · refine .trans ?_ (.of_held (startCheck_held _))
    exact .of_ofg rfl rfl (.inl rfl)

theorem judgePermission_frame : GuardFrame s (judgePermission s) := by
  unfold judgePermission
  dsimp only
  split
  · exact .of_ofg rfl rfl (.inl rfl)
  · refine .trans ?_ (.of_held (sequencePermission_held _ _))
    exact .of_ofg rfl rfl (.inl rfl)

/-- R39: the first effect of a trip, its record. -/
def tripRecord (cause : TripCause) (isolate : Option Escalation) (s : State) : State :=
  s.withOfg { s.ofg.zeroCounts with
    state := if isolate.isSome then .isolate else .tripped, tripCause := some cause, tripRef := s.lmu.sample.guardLevel,
    escalation := isolate, tripUptime := some s.now, granted := false, reason := .trip }

/-- R39: the fill, the valve and the permission after a trip's record. -/
def tripClosed (granted : Bool) (s : State) : State :=
  let t := sequenceTrip s
  let t := deliverValve (valveClose (t.withIvd { t.ivd with forceClose := true }))
  if granted then sequencePermission (some .trip) t else t

theorem trip_eq (c i) : trip c i s =
    let t := endTest .aborted (tripClosed s.ofg.granted (tripRecord c i s))
    let t := noticeGuard s.ofg.state false
      (recordGuardChange s.ofg.state (if i.isSome then GuardState.isolate else .tripped) t)
    if i.isSome then setHold true t else t := rfl

theorem tripClosed_held (granted) : (tripClosed granted s).held = s.held := by
  unfold tripClosed
  dsimp only
  split <;> simp

theorem trip_frame (c i) : GuardFrame s (trip c i s) := by
  have hrecord : GuardFrame s (tripRecord c i s) := .of_ofg rfl rfl (.inr rfl)
  have htest := (endTest_frame (tripClosed s.ofg.granted (tripRecord c i s)) .aborted).after
    (.after (.of_held (tripClosed_held _ _)) hrecord)
  have htold (o n : GuardState) : GuardFrame s (noticeGuard o false
      (recordGuardChange o n (endTest .aborted (tripClosed s.ofg.granted (tripRecord c i s))))) :=
    .after (.of_ofg (by simp) (by simp) (.inl (by simp))) htest
  rw [trip_eq]
  exact .ite (.after (.of_held (setHold_held _ _)) (htold _ _)) (htold _ _)

theorem guardSight_frame : GuardFrame s (guardSight s) := by
  unfold guardSight
  dsimp only
  split
  · split
    · exact moveGuard_frame s _ _ rfl rfl
    · exact moveGuard_frame s _ _ rfl rfl
    · exact .of_ofg rfl rfl (.inl rfl)
  · split
    · exact moveGuard_frame s _ _ rfl rfl
    · exact .of_ofg rfl rfl (.inl rfl)

theorem announce_frame (a b) : GuardFrame s (announce a b s) := by
  unfold announce
  dsimp only
  repeat' split
  · exact .of_ofg (by simp) (by simp) (.inl (by simp))
  · exact .of_ofg (by simp) (by simp) (.inl (by simp))
  · exact .of_held (raise_held ..)
  · exact .refl s

theorem warnStages_frame : GuardFrame s (warnStages s) := by
  unfold warnStages
  dsimp only
  repeat' split
  · exact moveGuard_frame s _ _ rfl rfl
  · exact .refl s
  · exact moveGuard_frame s _ _ rfl rfl
  · exact .refl s
  · exact .refl s

theorem guardStages_frame : GuardFrame s (guardStages s) := by
  unfold guardStages
  dsimp only
  repeat' split
  · exact .refl s
  · exact trip_frame s _ _
  · refine .trans (.trans ?_ (announce_frame _ _ _)) (warnStages_frame _)
    exact .of_ofg rfl rfl (.inl rfl)

theorem guardRise_frame : GuardFrame s (guardRise s) := by
  unfold guardRise
  repeat' split
  · exact .of_ofg rfl rfl (.inl rfl)
  · exact escalate_frame s _
  · exact .refl s
  · exact .refl s

theorem foundPassing_frame : GuardFrame s (foundPassing s) := by
  have hnoted : GuardFrame s (if s.ivd.faults.passing.isSome then s
      else noteFault .passing (s.raise .valve [4, optInt s.lmu.sample.rate])) :=
    .ite (.refl s) (.of_ofg rfl rfl (.inl rfl))
  unfold foundPassing
  dsimp only
  split
  · exact .after (trip_frame _ _ _) hnoted
  · exact .after (escalate_frame _ _) hnoted
  · exact hnoted

theorem guardPassing_frame (b) : GuardFrame s (guardPassing b s) := by
  unfold guardPassing
  dsimp only
  split
  · refine .trans ?_ (foundPassing_frame _)
    exact .of_ofg rfl rfl (.inl rfl)
  · exact .of_ofg rfl rfl (.inl rfl)

theorem guardTestStep_frame (b) : GuardFrame s (guardTestStep b s) := by
  unfold guardTestStep
  dsimp only
  split
  · exact .refl s
  · split
    · exact endTest_frame s _
    · rename_i t _ _
      have hstep : GuardFrame s (s.withOfg { s.ofg with test := some (t.step s.cfg.ofg s.lmu.sample.guardLevel) }) :=
        .of_ofg rfl rfl (.inl rfl)
      have hclose := GuardFrame.ite (c := t.highest ≠ .trip ∧ (t.step s.cfg.ofg s.lmu.sample.guardLevel).highest = .trip)
        (.after (.of_held (deliverClose_held _)) hstep) hstep
      exact .ite (.after (endTest_frame _ _) hclose) hclose

/-- R31: once the stage counts are taken, the rest of a sample keeps what `GuardFrame` says. -/
theorem guardSample_frame : GuardFrame (guardSight s |>.withOfg
    ((guardSight s).ofg.count (guardSight s).cfg.ofg (guardSight s).lmu.sample.guardLevel)) (guardSample s) := by
  have hrise := fun b z => GuardFrame.ite (c := b = GuardState.tripped) (.after (guardRise_frame _) (guardStages_frame z))
    (guardStages_frame z)
  exact .after (judgePermission_frame _) (.after (guardTestStep_frame _ _)
    (.ite (hrise _ _) (.after (guardPassing_frame _ _) (hrise _ _))))

theorem guardSample_meters : (guardSample s).ifm.pulses = s.ifm.pulses ∧ (guardSample s).ifm.dayPulses = s.ifm.dayPulses ∧
    (guardSample s).ofg.heldSpill = s.ofg.heldSpill :=
  have hsight := guardSight_frame s
  have hrest := guardSample_frame s
  ⟨hrest.pulses.trans hsight.pulses, hrest.dayPulses.trans hsight.dayPulses, hrest.heldSpill.trans hsight.heldSpill⟩

/-- R37: with the spill switch released a sample leaves the spill count at 0. -/
theorem guardSample_spillCount (h : s.ofg.heldSpill = .released) : (guardSample s).ofg.spillCount = 0 := by
  have hsight : (guardSight s).ofg.heldSpill = .released := (guardSight_frame s).heldSpill.trans h
  obtain hc | hc := (guardSample_frame s).spillCount
  · rw [hc]
    simp [Ofg.count, hsight, stageCount]
  · exact hc

end

/-! ### The sample at its receivers (R5) -/

@[simp] theorem takeSample_fixed (b : Block) (s : State) : (takeSample b s).fixed = s.fixed := by
  unfold takeSample; split <;> simp

theorem takeSample_meters (b : Block) (s : State) : (takeSample b s).ifm.pulses = s.ifm.pulses ∧
    (takeSample b s).ifm.dayPulses = s.ifm.dayPulses ∧ (takeSample b s).ofg.heldSpill = s.ofg.heldSpill := by
  have quiet (t : State) (h : t.held = s.held) :
      t.ifm.pulses = s.ifm.pulses ∧ t.ifm.dayPulses = s.ifm.dayPulses ∧ t.ofg.heldSpill = s.ofg.heldSpill :=
    ⟨(GuardFrame.of_held h).pulses, (GuardFrame.of_held h).dayPulses, (GuardFrame.of_held h).heldSpill⟩
  unfold takeSample
  split
  · exact guardSample_meters s
  · exact quiet _ (sequenceSample_held s)
  · exact quiet _ (recorderSample_held s)
  · exact quiet _ (heatingSample_held s)
  · exact ⟨rfl, rfl, rfl⟩

/-- A receiver of a sample keeps a spill count of 0 under a released switch. -/
theorem takeSample_spillCount (b : Block) (s : State) (h : s.ofg.heldSpill = .released) (hc : s.ofg.spillCount = 0) :
    (takeSample b s).ofg.spillCount = 0 := by
  have quiet (t : State) (ht : t.held = s.held) : t.ofg.spillCount = 0 :=
    (GuardFrame.of_held ht).spillCount.elim (fun e => e.trans hc) id
  unfold takeSample
  split
  · exact guardSample_spillCount s h
  · exact quiet _ (sequenceSample_held s)
  · exact quiet _ (recorderSample_held s)
  · exact quiet _ (heatingSample_held s)
  · exact hc

theorem raiseAll_fixed (s : State) (ns) : (s.raiseAll ns).fixed = s.fixed := foldl_fixed s ns _ fun _ _ => rfl

theorem raiseAll_frame {α : Type} (f : State → α) (h : ∀ (s : State) c fs, f (s.raise c fs) = f s) (s : State) (ns) :
    f (s.raiseAll ns) = f s := by
  unfold State.raiseAll
  induction ns generalizing s with
  | nil => rfl
  | cons n ns ih => rw [List.foldl_cons, ih, h]

/-- R5: the LMU record formed at a sample. -/
def State.sampled (s : State) : Lmu :=
  { s.lmu.formSample s.cfg.lmu s.cfg.strap s.now s.ifm.pulses s.cfg.valve.litresPerPulse s.ifm.stall with
    sampleTimer := some ⟨s.now, s.cfg.lmu.samplePeriodS⟩ }

theorem lmuSample_fixed (s : State) : (lmuSample s).fixed = (s.withLmu s.sampled).fixed := raiseAll_fixed _ _
theorem lmuSample_ifm (s : State) : (lmuSample s).ifm = s.ifm := raiseAll_frame State.ifm (fun _ _ _ => rfl) _ _
theorem lmuSample_ofg (s : State) : (lmuSample s).ofg = s.ofg := raiseAll_frame State.ofg (fun _ _ _ => rfl) _ _

theorem sampleTaken_fixed (s : State) : (sampleTaken s).fixed = (s.withLmu s.sampled).fixed := by
  rw [sampleTaken, handTo_fixed _ _ _ fun b t => takeSample_fixed b t, lmuSample_fixed]

theorem drawOrder_sampled (s : State) : s.drawOrder.sampled = s.sampled := by
  simp [State.sampled, State.drawOrder, State.cfg, State.now]

/-- R5: the LMU record after a sample, whatever the order in which its receivers take it. -/
theorem sampleTaken_lmu (s : State) : (sampleTaken s).lmu = s.sampled := ((fixed_iff _ _).1 (sampleTaken_fixed s)).1

theorem sampleTaken_ifm (s : State) :
    (sampleTaken s).ifm.pulses = s.ifm.pulses ∧ (sampleTaken s).ifm.dayPulses = s.ifm.dayPulses := by
  have frame {α : Type} (f : State → α) (h : ∀ b t, f (takeSample b t) = f t) : f (sampleTaken s) = f (lmuSample s) :=
    handTo_frame f _ _ _ fun b _ t => h b t
  rw [frame (·.ifm.pulses) fun b t => (takeSample_meters b t).1, frame (·.ifm.dayPulses) fun b t => (takeSample_meters b t).2.1,
    lmuSample_ifm]
  exact ⟨rfl, rfl⟩

theorem sampleTaken_spillCount (s : State) (h : s.ofg.heldSpill = .released) : (sampleTaken s).ofg.spillCount = 0 :=
  handTo_reaches (·.ofg.heldSpill = .released) (·.ofg.spillCount = 0) (lmuSample s) _ takeSample .ofg (by decide)
    (by rw [lmuSample_ofg]; exact h) (fun b _ t ht => (takeSample_meters b t).2.2.trans ht)
    (fun t ht => guardSample_spillCount t ht) (fun b _ t ht hc => takeSample_spillCount b t ht hc)

end Sys2Proof.Machine
end

section
/-! PROOFS. What the sample timer's expiry brings about (R1 to R19, R27, R37), assembled from the fields of the record it forms. -/
namespace Sys2Proof.Machine

@[simp] theorem withLmu_cfg (s : State) (x) : (s.withLmu x).cfg = s.cfg := rfl
@[simp] theorem drawOrder_tck (s : State) : s.drawOrder.tck = s.tck := by simp [State.drawOrder]
@[simp] theorem drawOrder_ifm (s : State) : s.drawOrder.ifm = s.ifm := by simp [State.drawOrder]
@[simp] theorem drawOrder_pending (s : State) : s.drawOrder.pending = s.pending := by simp [State.drawOrder]

theorem exec_sample (s : State) : ∃ t, exec .sampleTimerExpiry s = .next t ∧ t.lmu = s.sampled ∧ t.tck = s.tck ∧ t.cfg = s.cfg ∧
    t.sst.image = s.sst.image ∧ t.ifm.pulses = s.ifm.pulses ∧ t.ifm.dayPulses = s.ifm.dayPulses ∧ t.pending = s.pending := by
  have hrest := (fixed_iff _ _).1 (sampleTaken_fixed s.drawOrder)
  simp only [State.withLmu_tck, withLmu_cfg, State.withLmu_sst, State.withLmu_pending, drawOrder_tck, drawOrder_cfg, drawOrder_sst,
    drawOrder_pending] at hrest
  obtain ⟨-, htck, hcfg, himage, -, -, -, hpending, -⟩ := hrest
  obtain ⟨hpulses, hday⟩ := sampleTaken_ifm s.drawOrder
  rw [drawOrder_ifm] at hpulses hday
  have hlmu : (sampleTaken s.drawOrder).lmu = s.sampled := by rw [sampleTaken_lmu, drawOrder_sampled]
  exact ⟨sampleTaken s.drawOrder, rfl, hlmu, htck, hcfg, himage, hpulses, hday, hpending⟩

/-! ### Levels and health (R3, R4, R7, R8) -/

/-- The level and the health that a sample takes from a sensor's held reading, given the sensor's conversion and its health before. -/
def Graded (c : LmuSettings) (convert : Nat → Option Nat) (now : Word) (held : Option Reading) (before : Health)
    (level : Option Nat) (health : Health) : Prop :=
  level = (classify c.staleS now convert held).level ∧
    ∃ flat st, health = (nextHealth c flat before st (classify c.staleS now convert held)).1

theorem sampled_gradedA (s : State) : Graded s.cfg.lmu (headLevel s.cfg.lmu) s.now s.lmu.a.held s.lmu.sample.healthA
    s.sampled.sample.levelA s.sampled.sample.healthA := ⟨rfl, _, _, rfl⟩

theorem sampled_gradedB (s : State) : Graded s.cfg.lmu (rangeLevel s.cfg.lmu) s.now s.lmu.b.held s.lmu.sample.healthB
    s.sampled.sample.levelB s.sampled.sample.healthB := ⟨rfl, _, _, rfl⟩

namespace Graded
variable {c : LmuSettings} {convert : Nat → Option Nat} {now : Word} {held : Option Reading} {before : Health} {level : Option Nat}
  {health : Health} {r : Reading}

theorem stale (h : Graded c convert now held before level health) (hr : held = some r) (hs : c.staleS < elapsed now r.stamp) :
    level = none ∧ health = .failed .stale := by
  obtain ⟨hlevel, flat, st, hhealth⟩ := h
  rw [hr, classify_stale _ _ _ r hs] at hlevel hhealth
  exact ⟨hlevel, hhealth.trans (nextHealth_stale ..)⟩

theorem range (h : Graded c convert now held before level health) (hr : held = some r) (hf : elapsed now r.stamp ≤ c.staleS)
    (hn : convert r.raw = none) : level = none ∧ health = .failed .range := by
  obtain ⟨hlevel, flat, st, hhealth⟩ := h
  rw [hr, classify_range _ _ _ r hf hn] at hlevel hhealth
  exact ⟨hlevel, hhealth.trans (nextHealth_range ..)⟩

theorem absent (h : Graded c convert now held before level health) (hr : held = none) : level = none ∧ health = before := by
  obtain ⟨hlevel, flat, st, hhealth⟩ := h
  rw [hr] at hlevel hhealth
  exact ⟨hlevel, hhealth.trans (congrArg Prod.fst (nextHealth_absent ..))⟩

theorem fresh (h : Graded c convert now held before level health) (hr : held = some r) (hf : elapsed now r.stamp ≤ c.staleS) :
    level = convert r.raw := by
  rw [h.1, hr, classify_level _ _ _ r hf]

end Graded

theorem elapsed_self (w : Word) : elapsed w w = 0 := by
  rw [elapsed, BitVec.sub_self, BitVec.toNat_zero]

/-- R1, R3: the sample after an arrival at the head sensor takes its level. -/
theorem sampled_headArrival (count : Nat) (s : State) : (headArrival count s).sampled.sample.levelA = headLevel s.cfg.lmu count :=
  (sampled_gradedA (headArrival count s)).fresh rfl (le_of_eq_of_le (elapsed_self s.now) (Nat.zero_le _))

/-- R2, R4: the sample after an arrival at the range sensor takes its level. -/
theorem sampled_rangeArrival (d : Nat) (s : State) : (rangeArrival (some d) s).sampled.sample.levelB = rangeLevel s.cfg.lmu d :=
  (sampled_gradedB (rangeArrival (some d) s)).fresh rfl (le_of_eq_of_le (elapsed_self s.now) (Nat.zero_le _))

end Sys2Proof.Machine

section
open Sys2Proof Sys2Proof.Machine

/-- Settles O8, by the class of each held reading. -/
theorem sampleLevels : Obligations.SampleLevels := by
  intro s
  obtain ⟨t, ht, hlmu, -⟩ := exec_sample s
  refine ⟨t, ht, ?_⟩
  rw [hlmu]
  have ha := sampled_gradedA s
  have hb := sampled_gradedB s
  refine ⟨rfl, fun r hr hf => ⟨?_, ?_⟩, fun r hr hf => ⟨?_, ?_⟩, fun _ => ha.stale, fun _ => hb.stale, ha.absent, hb.absent⟩
  · exact fun hout => ha.range hr hf (headLevel_of_out _ _ hout)
  · exact fun hin => (ha.fresh hr hf).trans (headLevel_of_in _ _ hin)
  · exact fun hout => hb.range hr hf (rangeLevel_of_out _ _ hout)
  · exact fun h1 h2 => (hb.fresh hr hf).trans (rangeLevel_of_in _ _ h1 h2)

/-- Settles O7: the arrivals by their definitions, and the sample after each by what it takes. -/
theorem fieldArrivals : Obligations.FieldArrivals := by
  refine ⟨fun _ _ _ => rfl, fun _ _ => rfl, fun _ => rfl, fun _ _ => rfl, fun s count distance _ => ?_⟩
  obtain ⟨u, hu, hulmu, -⟩ := exec_sample (headArrival count s)
  obtain ⟨w, hw, hwlmu, -⟩ := exec_sample (rangeArrival (some distance) s)
  refine ⟨_, u, _, w, _, sampleTaken (spillChange .released s).drawOrder, rfl, hu, ?_, rfl, hw, ?_, rfl, rfl, ?_⟩
  · rw [hulmu, sampled_headArrival]
  · rw [hwlmu, sampled_rangeArrival]
  · exact sampleTaken_spillCount _ rfl

end
end

section
/-! PROOFS. The rules of a sample (R10 to R19, R23), each read off the fields of the record formed. -/
namespace Sys2Proof.Machine

/-! ### Flat line and GOOD run (R8, R11) -/

theorem meteredIn_iff (c : LmuSettings) (lpp : Nat) (stall : Bool) (ring : List Word) :
    meteredIn c lpp stall ring = true ↔ c.flatFlowL ≤ windowPulses ring * lpp ∧ stall = false := by
  simp [meteredIn]

/-- R11: the check of a GOOD sensor whose reading has a level, over windows `own` and `other`. -/
theorem graded_flat {c : LmuSettings} {lpp : Nat} {stall : Bool} {ring : List Word} {own other : List (Option Nat)} {before health : Health}
    {st st' : SensorState} {cls : ReadClass} {v : Nat}
    (hg : (health, st') = gradeSensor c (flatLine c own other (meteredIn c lpp stall ring)) before st cls)
    (hb : before = .good) (hv : cls.level = some v) :
    (FlatLine c own other (c.flatFlowL ≤ windowPulses ring * lpp ∧ stall = false) →
      health = .suspectFlat ∧ st'.flatRef = some v) ∧
    (¬FlatLine c own other (c.flatFlowL ≤ windowPulses ring * lpp ∧ stall = false) → health = .good) := by
  subst hb
  rw [← meteredIn_iff, ← flatLine_iff]
  obtain ⟨rfl, rfl⟩ := Prod.mk.inj hg
  obtain ⟨hflat, hnot⟩ := gradeSensor_of_good c (flatLine c own other (meteredIn c lpp stall ring)) st cls v hv
  exact ⟨hflat, fun h => hnot (by simpa using h)⟩

theorem graded_goodRun {c : LmuSettings} {flat : Bool} {before health : Health} {st st' : SensorState} {cls : ReadClass}
    {run : Nat} (hg : (health, st') = gradeSensor c flat before st cls) (hrun : st.goodRun = run) :
    st'.goodRun = if health = .good then min 600 (run + 1) else 0 := by
  obtain ⟨rfl, rfl⟩ := Prod.mk.inj hg
  subst hrun
  exact gradeSensor_goodRun ..

/-! ### Source (R13, R14) -/

theorem selectSource_rule (c : LmuSettings) (before : Option Sensor) (ha hb : Health) (run : Nat) :
    (before = some c.primary.other → pick c.primary.other ha hb = .good →
      selectSource c before ha hb run =
        if c.revertive = true ∧ c.revertSamples ≤ run then some c.primary else some c.primary.other) ∧
    (¬(before = some c.primary.other ∧ pick c.primary.other ha hb = .good) →
      selectSource c before ha hb run =
        if pick c.primary ha hb = .good then some c.primary
        else if pick c.primary.other ha hb = .good then some c.primary.other
        else if pick c.primary ha hb = .suspectFlat then some c.primary
        else if pick c.primary.other ha hb = .suspectFlat then some c.primary.other
        else none) :=
  ⟨selectSource_of_backup c before ha hb run, selectSource_of_fresh c before ha hb run⟩

/-! ### DISAGREE (R17) -/

theorem apart_of_not_good (c : LmuSettings) (x : SampleRecord) (h : x.healthA ≠ .good ∨ x.healthB ≠ .good) : x.apart c = false := by
  obtain h | h := h <;> simp [SampleRecord.apart, h]

theorem apart_of_good (c : LmuSettings) (x : SampleRecord) (v w : Nat) (ha : x.healthA = .good) (hb : x.healthB = .good)
    (hv : x.levelA = some v) (hw : x.levelB = some w) :
    x.apart c = decide (c.agreeMm < ((v : Int) - (w : Int)).natAbs) := by
  rw [← absDiff_eq_natAbs]
  simp [SampleRecord.apart, ha, hb, hv, hw]

section
variable (c : LmuSettings) (table : List StrapPoint) (now pulses : Word) (lpp : Nat) (stall : Bool) (l x : Lmu)
  (hx : l.formSample c table now pulses lpp stall = x)
include hx

theorem sampleRule_flat :
    (∀ v, l.sample.healthA = .good → x.sample.levelA = some v →
      (FlatLine c x.a.ring x.b.ring (c.flatFlowL ≤ windowPulses x.pulseRing * lpp ∧ stall = false) →
        x.sample.healthA = .suspectFlat ∧ x.a.flatRef = some v) ∧
      (¬FlatLine c x.a.ring x.b.ring (c.flatFlowL ≤ windowPulses x.pulseRing * lpp ∧ stall = false) → x.sample.healthA = .good)) ∧
    (∀ v, l.sample.healthB = .good → x.sample.levelB = some v →
      (FlatLine c x.b.ring x.a.ring (c.flatFlowL ≤ windowPulses x.pulseRing * lpp ∧ stall = false) →
        x.sample.healthB = .suspectFlat ∧ x.b.flatRef = some v) ∧
      (¬FlatLine c x.b.ring x.a.ring (c.flatFlowL ≤ windowPulses x.pulseRing * lpp ∧ stall = false) → x.sample.healthB = .good)) := by
  subst hx
  obtain ⟨ha, hb⟩ := formSample_levels c table now pulses lpp stall l
  exact ⟨fun v hgood hv => graded_flat (formSample_gradeA c table now pulses lpp stall l) hgood (ha.symm.trans hv),
    fun v hgood hv => graded_flat (formSample_gradeB c table now pulses lpp stall l) hgood (hb.symm.trans hv)⟩

theorem sampleRule_goodRun :
    x.a.goodRun = (if x.sample.healthA = .good then min 600 (l.a.goodRun + 1) else 0) ∧
    x.b.goodRun = (if x.sample.healthB = .good then min 600 (l.b.goodRun + 1) else 0) := by
  subst hx
  exact ⟨graded_goodRun (formSample_gradeA c table now pulses lpp stall l) rfl,
    graded_goodRun (formSample_gradeB c table now pulses lpp stall l) rfl⟩

/-- R18: with no source nothing is smoothed. -/
theorem sampleRule_noSource (h : x.sample.active = none) :
    x.sample.activeLevel = none ∧ x.sample.smoothed = none ∧ x.acc = l.acc ∧ x.seeded = l.seeded := by
  subst hx
  obtain ⟨-, -, hlevel⟩ := formSample_active c table now pulses lpp stall l
  obtain ⟨hsmoothed, hseeded, hkept, -⟩ := formSample_smoothed c table now pulses lpp stall l
  rw [h, Option.bind_none] at hlevel
  refine ⟨hlevel, hsmoothed.trans (by rw [h]; rfl), hkept hlevel, hseeded.trans ?_⟩
  rw [hlevel]
  exact Bool.or_false _

theorem sampleRule_activeLevel :
    (x.sample.active = some .a → x.sample.activeLevel = x.sample.levelA) ∧
    (x.sample.active = some .b → x.sample.activeLevel = x.sample.levelB) := by
  subst hx
  obtain ⟨-, -, hlevel⟩ := formSample_active c table now pulses lpp stall l
  exact ⟨fun h => hlevel.trans (by rw [h]; rfl), fun h => hlevel.trans (by rw [h]; rfl)⟩

/-- R18: the accumulator is seeded at the first level and at a change of source, and smoothed else. -/
theorem sampleRule_smoothed (v : Nat) (h : x.sample.activeLevel = some v) :
    x.seeded = true ∧ x.sample.smoothed = some (Int.fdiv x.acc 16).toNat ∧
    x.acc = (if l.seeded = false ∨ x.sample.swap = true then 16 * (v : Int)
      else l.acc + Int.fdiv (16 * (v : Int) - l.acc) (2 ^ c.smoothK)) := by
  subst hx
  obtain ⟨-, -, hlevel⟩ := formSample_active c table now pulses lpp stall l
  obtain ⟨hsmoothed, hseeded, -, hacc⟩ := formSample_smoothed c table now pulses lpp stall l
  have hactive : (l.formSample c table now pulses lpp stall).sample.active.isSome = true := by
    obtain ⟨y, hy, -⟩ := Option.bind_eq_some_iff.1 (hlevel.symm.trans h)
    rw [hy]
    rfl
  refine ⟨hseeded.trans ?_, hsmoothed.trans (if_pos hactive), hacc v h⟩
  rw [h]
  exact Bool.or_true _

/-- R19: the smoothed level joins the rate ring, which a change of source empties. -/
theorem sampleRule_rateRing :
    (x.sample.smoothed = none → x.rateRing = if x.sample.swap then [] else l.rateRing) ∧
    (∀ v, x.sample.smoothed = some v → x.rateRing = push (c.rateSpan + 1) (if x.sample.swap then [] else l.rateRing) v) := by
  subst hx
  obtain ⟨-, hring⟩ := formSample_rate c table now pulses lpp stall l
  exact ⟨fun h => hring.trans (by rw [h]), fun v h => hring.trans (by rw [h])⟩

theorem sampleRule_rate :
    (x.rateRing.length ≠ c.rateSpan + 1 → x.sample.rate = none) ∧
    (∀ (oldest newest : Nat) (between : List Nat), x.rateRing = oldest :: (between ++ [newest]) →
      x.rateRing.length = c.rateSpan + 1 →
      x.sample.rate = some (clamp (-9999) 9999
        (Int.tdiv (((newest : Int) - (oldest : Int)) * 60) ((c.rateSpan : Int) * (c.samplePeriodS : Int))))) := by
  subst hx
  obtain ⟨hrate, -⟩ := formSample_rate c table now pulses lpp stall l
  refine ⟨fun h => hrate.trans (rateOf_of_not_full _ _ h), fun oldest newest between h hlen => hrate.trans ?_⟩
  rw [h] at hlen ⊢
  exact rateOf_of_full c oldest newest between hlen

/-- R17: the count of disagreeing samples and the flag. -/
theorem sampleRule_disagree :
    (x.sample.healthA ≠ .good ∨ x.sample.healthB ≠ .good → x.disagreeCount = 0 ∧ x.sample.disagree = false) ∧
    (∀ v w, x.sample.healthA = .good → x.sample.healthB = .good → x.sample.levelA = some v → x.sample.levelB = some w →
      (((v : Int) - (w : Int)).natAbs ≤ c.agreeMm → x.disagreeCount = 0 ∧ x.sample.disagree = false) ∧
      (c.agreeMm < ((v : Int) - (w : Int)).natAbs → x.disagreeCount = l.disagreeCount + 1 ∧
        x.sample.disagree = (l.sample.disagree || decide (c.agreeSamples ≤ l.disagreeCount + 1)))) := by
  obtain ⟨hcount, hflag⟩ : x.disagreeCount = (if x.sample.apart c then l.disagreeCount + 1 else 0) ∧
      x.sample.disagree = (x.sample.apart c && (l.sample.disagree || decide (c.agreeSamples ≤ x.disagreeCount))) :=
    hx ▸ formSample_disagree c table now pulses lpp stall l
  have together (h : x.sample.apart c = false) : x.disagreeCount = 0 ∧ x.sample.disagree = false := by
    rw [hflag, hcount, h]
    exact ⟨rfl, rfl⟩
  refine ⟨fun h => together (apart_of_not_good c x.sample h), fun v w ha hb hv hw => ?_⟩
  have hapart := apart_of_good c x.sample v w ha hb hv hw
  refine ⟨fun h => together (by rw [hapart]; simpa using h), fun h => ?_⟩
  rw [hflag, hcount, hapart]
  simp [h]

end

theorem guardLevelOf_eq (ha hb : Health) (la lb : Option Nat) : guardLevelOf ha hb la lb =
    match (if ha.usable then la else none), (if hb.usable then lb else none) with
    | some a, some b => some (max a b)
    | some a, none => some a
    | none, b => b := by
  unfold guardLevelOf
  split <;> simp_all

end Sys2Proof.Machine

section
open Sys2Proof Sys2Proof.Machine

/-- Settles O9, rule by rule on the record that the sample forms. -/
theorem sampleVolumes : Obligations.SampleVolumes := by
  refine ⟨fun s => ?_, windowSpread_of_bounds, windowPulses_of_ends⟩
  obtain ⟨t, ht, hlmu, htck, hcfg, himage, hpulses, hday, hpending⟩ := exec_sample s
  refine ⟨t, ht, ?_⟩
  rw [hlmu]
  let x := s.lmu.formSample s.cfg.lmu s.cfg.strap s.now s.ifm.pulses s.cfg.valve.litresPerPulse s.ifm.stall
  have hx : s.lmu.formSample s.cfg.lmu s.cfg.strap s.now s.ifm.pulses s.cfg.valve.litresPerPulse s.ifm.stall = x := rfl
  obtain ⟨hactive, hswap, -⟩ :=
    formSample_active s.cfg.lmu s.cfg.strap s.now s.ifm.pulses s.cfg.valve.litresPerPulse s.ifm.stall s.lmu
  obtain ⟨hguard, hsv, hgv, hpv⟩ :=
    formSample_volumes s.cfg.lmu s.cfg.strap s.now s.ifm.pulses s.cfg.valve.litresPerPulse s.ifm.stall s.lmu
  have hsource := selectSource_rule s.cfg.lmu s.lmu.sample.active x.sample.healthA x.sample.healthB
    (pick s.cfg.lmu.primary x.a.goodRun x.b.goodRun)
  rw [← hactive] at hsource
  obtain ⟨hnot, hboth⟩ := sampleRule_disagree _ _ _ _ _ _ _ x hx
  exact ⟨rfl, formSample_rings .., sampleRule_flat _ _ _ _ _ _ _ x hx, sampleRule_goodRun _ _ _ _ _ _ _ x hx, hsource, hswap,
    sampleRule_noSource _ _ _ _ _ _ _ x hx, (sampleRule_activeLevel _ _ _ _ _ _ _ x hx).1,
    (sampleRule_activeLevel _ _ _ _ _ _ _ x hx).2, sampleRule_smoothed _ _ _ _ _ _ _ x hx,
    sampleRule_rateRing _ _ _ _ _ _ _ x hx, (sampleRule_rate _ _ _ _ _ _ _ x hx).1, (sampleRule_rate _ _ _ _ _ _ _ x hx).2,
    hnot, hboth, hguard.trans (guardLevelOf_eq ..), hsv, hgv, hpv, htck, hcfg, himage, hpulses, hday, hpending⟩

end
end

section
/-! PROOFS. Power-on (R25, R65, R70, R81, R87, R127, R147, R166, R181, R191): the valve's start, to which no receiver answers, and the
blocks around it. -/
namespace Sys2Proof.Machine

/-! ### Valve events that find nothing to do -/

/-- A state in which a valve event other than an arrival at CLOSED or a re-prove completion finds nothing to do at any receiver. -/
structure State.Unmoved (s : State) : Prop where
  seq : s.fsq.seq = .idle
  guard : s.ofg.state ≠ .tripped
  test : s.ofg.test = none
  armed : s.armable = s.ifm.armed
  part : s.sst.part ≠ .quiescing

theorem takeValveEvent_unmoved (s : State) (h : s.Unmoved) (e : ValveEvent) (hc : e ≠ .moved .closed) (hr : e ≠ .reproved) (b : Block) :
    takeValveEvent sequenceValve e b s = s := by
  have hseq : sequenceValve e s = s := by
    unfold sequenceValve
    rw [h.seq]
    dsimp only
    split <;> simp_all
  have hguard : guardValve e s = s := by
    unfold guardValve
    split <;> simp_all [testReport, h.test, h.guard]
  have harm : judgeArm s = s := if_pos h.armed
  have hrest : judgeRest s = s := if_neg fun hq => h.part hq.1
  cases b with
  | fsq => exact hseq
  | ofg => exact hguard
  | ifm => exact (congrArg (ite _ · s) harm).trans (ite_self s)
  | sst => exact (congrArg (ite _ · s) hrest).trans (ite_self s)
  | _ => rfl

theorem deliverValve_unmoved (s : State) (h : s.Unmoved) (es : List ValveEvent)
    (hes : ∀ e ∈ es, e ≠ .moved .closed ∧ e ≠ .reproved) : deliverValve (s, es) = s := by
  show handValveEvents sequenceValve es s = s
  unfold handValveEvents
  induction es with
  | nil => rfl
  | cons e es ih =>
    obtain ⟨hc, hr⟩ := hes e List.mem_cons_self
    rw [List.foldl_cons, handTo_idle (· = s) s _ _ rfl fun b _ t ht => by
      subst ht
      exact takeValveEvent_unmoved t h e hc hr b]
    exact ih fun d hd => hes d (List.mem_cons_of_mem _ hd)

/-! ### The valve's start (R65) -/

section
variable (p : LimitPattern) (latched : Bool) (s : State)

theorem valveStart_writes :
    (valveStart p latched s).1 = (s.withIvd (valveStart p latched s).1.ivd).withSvp (valveStart p latched s).1.svp := by
  cases p <;> rfl

theorem valveStart_not_opened : (valveStart p latched s).1.ivd.state ≠ .opened := by
  cases p <;> exact nofun

/-- R65: only a start with both limits asserted raises a notice. -/
theorem valveStart_svp :
    (valveStart p latched s).1.svp = s.svp ∨ ∃ n, (valveStart p latched s).1.svp = s.svp.takeNotice n := by
  cases p with
  | both => exact .inr ⟨_, rfl⟩
  | closedOnly | openOnly | neither => exact .inl rfl

theorem valveStart_events : ∀ e ∈ (valveStart p latched s).2, e ≠ .moved .closed ∧ e ≠ .reproved := by
  cases p with
  | closedOnly => exact fun e he => absurd he List.not_mem_nil
  | openOnly => exact fun e he => List.mem_singleton.1 he ▸ ⟨by decide, by decide⟩
  | neither => exact fun e he => List.mem_singleton.1 he ▸ ⟨by decide, by decide⟩
  | both => exact fun e he => List.mem_singleton.1 he ▸ ⟨by decide, by decide⟩

theorem valveStart_ivd (v : Ivd) (hv : (valveStart p latched s).1.ivd = v) :
    v.pattern = p ∧ v.reprove = none ∧
    (p = .closedOnly → v.state = .closed ∧ v.drive = .idle ∧ v.faults.isEmpty = true) ∧
    (p = .openOnly ∨ p = .neither →
      v.state = .closing ∧ v.drive = .closing ∧ v.watchdog = some ⟨s.now, s.cfg.valve.valveTravelS⟩) ∧
    (p = .both → v.state = .fault .bothLimits ∧ v.drive = .closing ∧ v.faults.bothLimits = some s.now) := by
  subst hv
  cases p with
  | closedOnly => exact ⟨rfl, rfl, fun _ => ⟨rfl, rfl, rfl⟩, by simp, by simp⟩
  | openOnly => exact ⟨rfl, rfl, by simp, fun _ => ⟨rfl, rfl, rfl⟩, by simp⟩
  | neither => exact ⟨rfl, rfl, by simp, fun _ => ⟨rfl, rfl, rfl⟩, by simp⟩
  | both => exact ⟨rfl, rfl, by simp, by simp, fun _ => ⟨rfl, rfl, rfl⟩⟩

end

/-! ### The Service Port after a start (R191) -/

/-- R191: the Service Port as it starts, with at most `k` notices waiting. -/
structure Svp.Started (v : Svp) (k : Nat) : Prop where
  rx : v.rx = .hunt
  gapRunning : v.gapRunning = false
  queue : v.queue = []
  reply : v.reply = none
  busy : v.busy = none
  lost : v.lost = 0
  mask : v.mask = BitVec.allOnes 22
  gapErrors : v.gapErrors = 0
  checkErrors : v.checkErrors = 0
  lengthErrors : v.lengthErrors = 0
  dropped : v.dropped = 0
  room : v.notices.length ≤ k

theorem started_default : ({} : Svp).Started 0 := ⟨rfl, rfl, rfl, rfl, rfl, rfl, rfl, rfl, rfl, rfl, rfl, Nat.le_refl _⟩

/-- The arbiter keeps the receiver, the slots, the mask and the error counts, and at most clears the lost count. -/
theorem arbitrate_started {v : Svp} {k : Nat} (h : v.Started k) : v.arbitrate.Started k := by
  have hcounts : v.arbitrate.gapRunning = v.gapRunning ∧ (v.arbitrate.lost = v.lost ∨ v.arbitrate.lost = 0) ∧
      v.arbitrate.gapErrors = v.gapErrors ∧ v.arbitrate.checkErrors = v.checkErrors ∧
      v.arbitrate.lengthErrors = v.lengthErrors ∧ v.arbitrate.dropped = v.dropped := by
    unfold Svp.arbitrate
    (repeat' split) <;> simp
  obtain ⟨hgap, hlost, hgapErrors, hcheck, hlength, hdropped⟩ := hcounts
  obtain ⟨hreply, hbusy, hqueue, -, hmask, hrx, hnotices⟩ := arbitrate_slots v
  exact ⟨hrx.trans h.rx, hgap.trans h.gapRunning, hqueue.trans h.queue, hreply.trans h.reply, hbusy.trans h.busy,
    hlost.elim (fun e => e.trans h.lost) id, hmask.trans h.mask, hgapErrors.trans h.gapErrors, hcheck.trans h.checkErrors,
    hlength.trans h.lengthErrors, hdropped.trans h.dropped, Nat.le_trans hnotices h.room⟩

theorem takeNotice_started {v : Svp} {k : Nat} (h : v.Started k) (hk : k < 16) (n : Notice) : (v.takeNotice n).Started (k + 1) := by
  have hroom := h.room
  have hjoined : ({ v with notices := v.notices ++ [n] } : Svp).Started (k + 1) :=
    { h with room := by simpa using hroom }
  unfold Svp.takeNotice
  split
  · rw [if_pos (by omega)]
    exact arbitrate_started hjoined
  · exact { h with room := by omega }

/-! ### Power-on (R196) -/

/-- R196: the blocks at power-on, before the valve starts. -/
def State.fresh (spill : SpillState) (s : State) : State :=
  let valid := imageGood s.sst.image
  let w := loadSettings s.sst.image valid
  { lmu := Lmu.start w, ofg := Ofg.start w spill, fsq := Fsq.start w, sli := Sli.start w, fhc := Fhc.start w,
    sst := { working := w, image := s.sst.image, imageValid := valid, part := startPart w },
    pending := s.pending, order := s.order, draws := s.draws }

theorem startPart_ne_quiescing (w : Settings) : startPart w ≠ .quiescing := by
  unfold startPart
  split <;> simp

/-- R68: stall supervision is armed with the valve OPEN only. -/
theorem armable_of_not_opened (s : State) (h : s.ivd.state ≠ .opened) : s.armable = false := by
  simp [State.armable, h]

/-- R65: at power-on no receiver acts on what the valve's start hands over. -/
theorem startValve_fresh (p : LimitPattern) (spill : SpillState) (s : State) :
    startValve p (s.fresh spill) = (valveStart p false (s.fresh spill)).1 := by
  have hidle : (valveStart p false (s.fresh spill)).1.Unmoved := by
    have hstate := valveStart_not_opened p false (s.fresh spill)
    rw [valveStart_writes]
    exact ⟨rfl, nofun, rfl, armable_of_not_opened _ hstate, startPart_ne_quiescing _⟩
  exact deliverValve_unmoved _ hidle _ (valveStart_events p false _)

/-- R196: power-on writes the valve's record, and its notices reach the Service Port; the other blocks are those of the start. -/
theorem powerOn_eq (p : LimitPattern) (spill : SpillState) (s : State) : ∃ x : Svp, x.Started 2 ∧ powerOn p spill s =
    ((s.fresh spill).withIvd (valveStart p false (s.fresh spill)).1.ivd).withSvp x := by
  have hpower : powerOn p spill s = startNotice (valveStart p false (s.fresh spill)).1 := congrArg startNotice (startValve_fresh p spill s)
  have hsvp : (valveStart p false (s.fresh spill)).1.svp.Started 1 := by
    obtain h | ⟨n, h⟩ := valveStart_svp p false (s.fresh spill)
    · rw [h]
      exact { started_default with room := Nat.zero_le _ }
    · rw [h]
      exact takeNotice_started started_default (by decide) n
  rw [valveStart_writes] at hpower
  exact ⟨_, takeNotice_started hsvp (by decide) _, hpower⟩

end Sys2Proof.Machine

section
open Sys2Proof Sys2Proof.Machine

/-- Settles O6: the blocks stand at their start values, and the valve at what its start makes of the limits. -/
theorem powerOnBlockValues : Obligations.PowerOnBlockValues := by
  intro limits spill s
  obtain ⟨x, hx, hon⟩ := powerOn_eq limits spill s.drawOrder
  refine ⟨powerOn limits spill s.drawOrder, rfl, ?_⟩
  have hpending := drawOrder_pending s
  rw [hon]
  generalize s.drawOrder = u at hpending ⊢
  exact ⟨⟨rfl, rfl, rfl, rfl, rfl, rfl, rfl, rfl, rfl, rfl, rfl, rfl, rfl, rfl⟩, valveStart_ivd limits false _ _ rfl,
    ⟨rfl, rfl, rfl, rfl, rfl, rfl⟩, ⟨rfl, rfl, rfl, rfl⟩, ⟨rfl, rfl, rfl, rfl, rfl, rfl⟩,
    ⟨rfl, rfl, rfl, rfl, rfl, rfl, fun k => by cases k <;> exact ⟨rfl, rfl⟩⟩,
    ⟨rfl, rfl, rfl, rfl, rfl, rfl, rfl, rfl, rfl, rfl, rfl, rfl⟩,
    ⟨fun p => by cases p <;> rfl, rfl, rfl, rfl, rfl, rfl, rfl, fun z => by cases z <;> rfl⟩,
    ⟨rfl, rfl, rfl, rfl, rfl, rfl⟩,
    ⟨hx.rx, hx.gapRunning, hx.queue, hx.reply, hx.busy, hx.lost, hx.mask, hx.gapErrors, hx.checkErrors, hx.lengthErrors, hx.dropped⟩,
    hpending⟩

end
end

section
/-! PROOFS. Bodies of SET requests: the search for the first field out of its range (R186), the fields of an accepted body read back, and
the serving of a request by its owner (R184, R185). -/
namespace Sys2Proof.Machine

/-! ### The first field out of its range -/

theorem firstBad_append (fs : List Word) (i : Nat) (rs qs : List (Int × Int)) :
    firstBad fs i (rs ++ qs) = (firstBad fs i rs).or (firstBad fs (i + rs.length) qs) := by
  induction rs generalizing i with
  | nil => rfl
  | cons r rs ih =>
    rw [List.cons_append, firstBad, firstBad, ih, List.length_cons, Nat.add_right_comm, Nat.add_assoc]
    split <;> rfl

theorem firstBad_eq_none (fs : List Word) (i : Nat) (rs : List (Int × Int))
    (h : ∀ j r, rs[j]? = some r → inRange r.1 r.2 (intAt fs (i + j)) = true) : firstBad fs i rs = none := by
  induction rs generalizing i with
  | nil => rfl
  | cons r rs ih =>
    have hfirst : inRange r.1 r.2 (intAt fs i) = true := h 0 r rfl
    rw [firstBad, if_pos hfirst]
    refine ih (i + 1) fun j q hq => ?_
    rw [show i + 1 + j = i + (j + 1) by omega]
    exact h (j + 1) q hq

/-- The first field out of its range is found where every field before it is in its range. -/
theorem firstBad_eq_some (fs : List Word) (i j : Nat) (rs : List (Int × Int)) (r : Int × Int) (hr : rs[j]? = some r)
    (hbad : inRange r.1 r.2 (intAt fs (i + j)) = false)
    (hok : ∀ k q, k < j → rs[k]? = some q → inRange q.1 q.2 (intAt fs (i + k)) = true) : firstBad fs i rs = some (i + j) := by
  induction rs generalizing i j with
  | nil => simp at hr
  | cons q rs ih =>
    cases j with
    | zero =>
      obtain rfl : q = r := by simpa using hr
      exact if_neg (by simpa using hbad)
    | succ j =>
      have hfirst : inRange q.1 q.2 (intAt fs i) = true := hok 0 q (Nat.succ_pos j) rfl
      rw [firstBad, if_pos hfirst, show i + (j + 1) = i + 1 + j by omega]
      refine ih (i + 1) j hr (by rw [show i + 1 + j = i + (j + 1) by omega]; exact hbad) fun k p hk hp => ?_
      rw [show i + 1 + k = i + (k + 1) by omega]
      exact hok (k + 1) p (Nat.succ_lt_succ hk) hp

/-- Fields that lie in the ranges at their places, field by field. -/
def InRanges : List Word → List (Int × Int) → Prop
  | _, [] => True
  | [], _ :: _ => False
  | w :: fs, r :: rs => inRange r.1 r.2 w.toInt = true ∧ InRanges fs rs

theorem InRanges.field {fs : List Word} {rs : List (Int × Int)} (h : InRanges fs rs) (j : Nat) (r : Int × Int)
    (hr : rs[j]? = some r) : inRange r.1 r.2 (intAt fs j) = true := by
  induction rs generalizing fs j with
  | nil => cases hr
  | cons q rs ih =>
    cases fs with
    | nil => exact h.elim
    | cons w fs =>
      obtain ⟨hfirst, hrest⟩ := h
      cases j with
      | zero =>
        obtain rfl : q = r := Option.some.inj hr
        exact hfirst
      | succ j => exact ih hrest j hr

theorem firstBad_of_inRanges (fs : List Word) (rs : List (Int × Int)) (h : InRanges fs rs) : firstBad fs 0 rs = none :=
  firstBad_eq_none fs 0 rs fun j r hr => by
    rw [Nat.zero_add]
    exact h.field j r hr

theorem length_flatMap_block {α β : Type} (f : α → List β) (n : Nat) (as : List α) (h : ∀ a, (f a).length = n) :
    (as.flatMap f).length = n * as.length := by
  induction as with
  | nil => rfl
  | cons a as ih => rw [List.flatMap_cons, List.length_append, h, ih, List.length_cons, Nat.mul_succ, Nat.add_comm]

theorem intAt_append_right (pre fs : List Word) (j : Nat) : intAt (pre ++ fs) (pre.length + j) = intAt fs j := by
  simp [intAt, List.getD_eq_getElem?_getD, List.getElem?_append_right]

theorem intAt_append_left (fs post : List Word) (j : Nat) (h : j < fs.length) : intAt (fs ++ post) j = intAt fs j := by
  simp [intAt, List.getD_eq_getElem?_getD, List.getElem?_append_left h]

/-- A body whose fields after `pre` repeat in blocks, each in the ranges of the block, has no field out of its range there. -/
theorem firstBad_blocks {α : Type} (f : α → List Word) (block : List (Int × Int)) (as : List α) (pre : List Word)
    (hlen : ∀ a ∈ as, (f a).length = block.length)
    (hin : ∀ a ∈ as, ∀ j r, block[j]? = some r → inRange r.1 r.2 (intAt (f a) j) = true) :
    firstBad (pre ++ as.flatMap f) pre.length (List.replicate as.length block).flatten = none := by
  induction as generalizing pre with
  | nil => rfl
  | cons a as ih =>
    have ha := hlen a List.mem_cons_self
    rw [List.length_cons, List.replicate_succ, List.flatten_cons, firstBad_append, List.flatMap_cons]
    have hfirst : firstBad (pre ++ (f a ++ as.flatMap f)) pre.length block = none := by
      refine firstBad_eq_none _ _ _ fun j r hr => ?_
      have hj : j < block.length := (List.getElem?_eq_some_iff.1 hr).1
      rw [intAt_append_right, intAt_append_left _ _ _ (ha ▸ hj)]
      exact hin a List.mem_cons_self j r hr
    have hrest := ih (pre ++ f a) (fun b hb => hlen b (List.mem_cons_of_mem _ hb)) fun b hb => hin b (List.mem_cons_of_mem _ hb)
    rw [List.append_assoc, List.length_append, ha] at hrest
    rw [hfirst, hrest]
    rfl

/-! ### Fields read back -/

theorem inRange_iff (lo hi x : Int) : inRange lo hi x = true ↔ lo ≤ x ∧ x ≤ hi := by
  simp [inRange]

theorem inRange_numField (lo hi : Int) (n : Nat) (h1 : lo ≤ n) (h2 : (n : Int) ≤ hi) (h3 : hi < 2147483648) :
    inRange lo hi (numField n).toInt = true := by
  rw [toInt_numField n (by omega), inRange_iff]
  exact ⟨h1, h2⟩

theorem inRange_intField (lo hi x : Int) (h1 : lo ≤ x) (h2 : x ≤ hi) (h3 : -2147483648 ≤ lo) (h4 : hi < 2147483648) :
    inRange lo hi (intField x).toInt = true := by
  rw [toInt_intField x (by omega) (by omega), inRange_iff]
  exact ⟨h1, h2⟩

theorem inRange_twoWay (b : Bool) : inRange 0 1 (twoWay b).toInt = true := by
  cases b <;> rfl

theorem toNat_numField (n : Nat) (h : n < 2147483648) : (numField n).toInt.toNat = n := by
  rw [toInt_numField n h, Int.toNat_natCast]

theorem twoWay_first (b : Bool) : decide ((twoWay b).toInt.toNat = 0) = b := by
  cases b <;> rfl

/-! ### Serving (R184, R185) -/

@[simp] theorem drawOrder_lmu (s : State) : s.drawOrder.lmu = s.lmu := by simp [State.drawOrder]
@[simp] theorem drawOrder_ofg (s : State) : s.drawOrder.ofg = s.ofg := by simp [State.drawOrder]
@[simp] theorem drawOrder_fhc (s : State) : s.drawOrder.fhc = s.fhc := by simp [State.drawOrder]

/-- A request of fitting length that finds the Service Port free and no commit in its way is answered as its owner answers. -/
theorem request_owner (kind tag : Byte) (fs : List Word) (form : BodyForm) (s : State) (hs : s.free)
    (hk : bodyForm kind = some form) (hl : form.allows (4 * fs.length) = true)
    (hc : (waitsForCommit kind && s.sst.writing.isSome) = false) :
    request kind tag fs s = placeReply ⟨kind, tag, fieldBytes fs⟩ (owner kind (4 * fs.length) fs s).1
      (owner kind (4 * fs.length) fs s).2 := by
  rw [request, placeRequest_free s _ hs, judgeRequest_owner s kind tag fs form hk hl hc]

theorem noCommit_of_idle (kind : Byte) (s : State) (h : s.commitIdle) : (waitsForCommit kind && s.sst.writing.isSome) = false := by
  rw [show s.sst.writing = none from h]
  exact Bool.and_false _

/-- A request that its owner accepts without a body. -/
theorem request_accepted (kind tag : Byte) (fs : List Word) (form : BodyForm) (s t : State) (hs : s.free)
    (hk : bodyForm kind = some form) (hl : form.allows (4 * fs.length) = true)
    (hc : (waitsForCommit kind && s.sst.writing.isSome) = false)
    (ho : owner kind (4 * fs.length) fs s = (acceptEmpty, t)) :
    request kind tag fs s = t.answered (kind ||| 0x80) tag [] := by
  rw [request_owner kind tag fs form s hs hk hl hc, ho]
  rfl

theorem judgeSet_accepted (bad : Option Nat) (consistent : Bool) (accepted : State → State) (s : State) (hb : bad = none)
    (hc : consistent = true) : judgeSet bad consistent accepted s = (acceptEmpty, accepted s) := by
  rw [hb, hc]
  rfl

end Sys2Proof.Machine
end

section
/-! PROOFS. What an accepted STRAP_SET, GUARD_SET and HEAT_SET hands over: the ceiling and the permission (R28, R29, R46), the overflow path
(R152) and the run of the arbitration (R157). -/
namespace Sys2Proof.Machine

/-! ### Permission and ceiling (R28 to R30, R46) -/

/-- What the ceiling's change leaves: the guard state and the blind budget, and the heating record but for its runs. -/
structure CeilingFrame (s t : State) : Prop where
  state : t.ofg.state = s.ofg.state
  budget : t.ofg.budget = s.ofg.budget
  heating : t.fhc.exceptRun = s.fhc.exceptRun

theorem CeilingFrame.of_held {s t : State} (h : t.held = s.held) : CeilingFrame s t := by
  obtain ⟨hofg, -, -, -, hfhc⟩ := (held_iff s t).1 h
  obtain ⟨hstate, -, hbudget, -⟩ := exceptClose_fields hofg
  exact ⟨hstate, hbudget, hfhc⟩

theorem CeilingFrame.trans {s t u : State} (h : CeilingFrame s t) (k : CeilingFrame t u) : CeilingFrame s u :=
  ⟨k.state.trans h.state, k.budget.trans h.budget, k.heating.trans h.heating⟩

/-- The ceiling and the permission, which no fill and no move of the valve changes. -/
theorem held_ceiling {s t : State} (h : t.held = s.held) :
    t.ofg.ceilingMm = s.ofg.ceilingMm ∧ t.ofg.ceilingVolume = s.ofg.ceilingVolume ∧ t.ofg.granted = s.ofg.granted := by
  obtain ⟨hofg, -⟩ := (held_iff s t).1 h
  obtain ⟨-, -, -, hmm, hvolume, hgranted, -⟩ := exceptClose_fields hofg
  exact ⟨hmm, hvolume, hgranted⟩

theorem withdrawal_congr (blindFill : Bool) (g h : Ofg) (hs : g.state = h.state) (hv : g.ceilingVolume = h.ceilingVolume)
    (hb : g.budget = h.budget) : withdrawal blindFill g = withdrawal blindFill h := by
  unfold withdrawal
  rw [hs, hv, hb]

section
variable (s : State)

/-- R46: the record with the permission evaluated, before a change of it is handed over. -/
def judgedPermission : State :=
  s.withOfg { s.ofg with
    granted := (withdrawal s.cfg.ofg.blindFill s.ofg).isNone
    reason := (withdrawal s.cfg.ofg.blindFill s.ofg).getD s.ofg.reason }

theorem judgePermission_held : (judgePermission s).held = (judgedPermission s).held := by
  unfold judgePermission
  dsimp only
  split
  · rfl
  · rw [sequencePermission_held]
    rfl

theorem judgePermission_ceilingFrame : CeilingFrame s (judgePermission s) :=
  .trans (t := judgedPermission s) ⟨rfl, rfl, rfl⟩ (.of_held (judgePermission_held s))

theorem judgePermission_ceiling : (judgePermission s).ofg.ceilingMm = s.ofg.ceilingMm ∧
    (judgePermission s).ofg.ceilingVolume = s.ofg.ceilingVolume := by
  obtain ⟨hmm, hvolume, -⟩ := held_ceiling (judgePermission_held s)
  exact ⟨hmm, hvolume⟩

/-- R46: permission after its evaluation is that of the record as it then stands. -/
theorem judgePermission_granted :
    (judgePermission s).ofg.granted = (withdrawal s.cfg.ofg.blindFill (judgePermission s).ofg).isNone := by
  obtain ⟨-, hvolume, hgranted⟩ := held_ceiling (judgePermission_held s)
  have hframe := judgePermission_ceilingFrame s
  rw [hgranted, withdrawal_congr _ _ _ hframe.state hvolume hframe.budget]
  rfl

theorem recomputeCeiling_ceilingFrame : CeilingFrame s (recomputeCeiling s) := by
  unfold recomputeCeiling
  dsimp only
  split
  · exact ⟨rfl, rfl, rfl⟩
  · refine .trans ?_ (judgePermission_ceilingFrame _)
    refine .trans ?_ (.of_held (cutBelow_held _ _ _))
    exact ⟨rfl, rfl, rfl⟩

/-- R29: the ceiling after its recomputation. -/
theorem recomputeCeiling_ceiling :
    (recomputeCeiling s).ofg.ceilingMm = ceilingOf s.cfg.ofg s.fhc.pathProven ∧
    (recomputeCeiling s).ofg.ceilingVolume = volumeAt s.cfg.strap (ceilingOf s.cfg.ofg s.fhc.pathProven) := by
  unfold recomputeCeiling
  dsimp only
  split
  · rename_i h
    obtain ⟨hmm, hvolume⟩ := h
    exact ⟨hmm.symm, hvolume.symm⟩
  · generalize hw : s.withOfg _ = w
    obtain ⟨hmm, hvolume⟩ := judgePermission_ceiling
      (cutBelow s.ofg.ceilingVolume (volumeAt s.cfg.strap (ceilingOf s.cfg.ofg s.fhc.pathProven)) w)
    obtain ⟨hcutMm, hcutVolume, -⟩ := held_ceiling (cutBelow_held w s.ofg.ceilingVolume
      (volumeAt s.cfg.strap (ceilingOf s.cfg.ofg s.fhc.pathProven)))
    rw [hmm, hvolume, hcutMm, hcutVolume, ← hw]
    exact ⟨rfl, rfl⟩

/-- R50: after a test's end no test runs, and the guard record is else as it was. -/
theorem endTest_ofg (r : TestResult) : (endTest r s).ofg.test = none ∧ (endTest r s).ofg.state = s.ofg.state ∧
    (endTest r s).ofg.budget = s.ofg.budget ∧ (endTest r s).ofg.ceilingMm = s.ofg.ceilingMm ∧
    (endTest r s).ofg.ceilingVolume = s.ofg.ceilingVolume ∧ (endTest r s).ofg.granted = s.ofg.granted := by
  unfold endTest
  split
  · rename_i h
    exact ⟨h, rfl, rfl, rfl, rfl, rfl⟩
  · rename_i t ht
    dsimp only
    generalize hw : ((s.withOfg _).raise _ _ : State) = w
    obtain ⟨hofg, -⟩ := (held_iff _ _).1 (startCheck_held w)
    obtain ⟨hstate, -, hbudget, hmm, hvolume, hgranted, -, -, htest⟩ := exceptClose_fields hofg
    rw [hstate, hbudget, hmm, hvolume, hgranted]
    have hnone : w.ofg.test = none := by rw [← hw]; rfl
    rw [hnone] at htest
    refine ⟨Option.not_isSome_iff_eq_none.1 (by rw [htest]; simp), ?_⟩
    rw [← hw]
    exact ⟨rfl, rfl, rfl, rfl, rfl⟩

/-- R51: what GUARD_SET hands over once the settings are replaced. -/
theorem guardChange_ofg :
    (guardChange s).ofg.ceilingMm = ceilingOf s.cfg.ofg s.fhc.pathProven ∧
    (guardChange s).ofg.ceilingVolume = volumeAt s.cfg.strap (ceilingOf s.cfg.ofg s.fhc.pathProven) ∧
    (guardChange s).ofg.test = none ∧ (guardChange s).ofg.state = s.ofg.state ∧
    (guardChange s).ofg.granted = (withdrawal s.cfg.ofg.blindFill (guardChange s).ofg).isNone ∧
    (guardChange s).ofg.budget = s.ofg.budget := by
  have hceiling := recomputeCeiling_ceiling s
  have hframe := recomputeCeiling_ceilingFrame s
  have hcfg : (recomputeCeiling s).cfg = s.cfg := ((fixed_iff _ _).1 (recomputeCeiling_fixed s)).2.2.1
  unfold guardChange
  generalize recomputeCeiling s = r at hceiling hframe hcfg ⊢
  have hpermission := judgePermission_granted r
  have hkept := judgePermission_ceilingFrame r
  obtain ⟨hmm, hvolume⟩ := judgePermission_ceiling r
  obtain ⟨htest, hstate, hbudget, htMm, htVolume, hgranted⟩ := endTest_ofg (judgePermission r) .aborted
  refine ⟨htMm.trans (hmm.trans hceiling.1), htVolume.trans (hvolume.trans hceiling.2), htest,
    hstate.trans (hkept.state.trans hframe.state), ?_, hbudget.trans (hkept.budget.trans hframe.budget)⟩
  rw [hgranted, hpermission, hcfg, withdrawal_congr _ _ _ hstate htVolume hbudget]

/-! ### The run of the arbitration (R157 to R159) -/

/-- R159: a zone that a run leaves ON was granted by it. -/
theorem applyGrant_on (z : Zone) (h : (s.applyGrant z (s.fhc.zones.get z)).state = .on) : z ∈ s.grant := by
  refine Decidable.byContradiction fun hz => ?_
  have leaves (r : ZoneRec) (x : ZoneState) : (r.leaveOn x).state = x := by
    unfold ZoneRec.leaveOn
    split <;> rfl
  unfold State.applyGrant at h
  rw [if_neg (by simpa using hz)] at h
  split at h
  · rw [leaves] at h; cases h
  · split at h
    · rename_i hf
      rw [hf] at h; cases h
    · split at h <;> (rw [leaves] at h; cases h)

/-- R158: the zones granted by a run draw at most the budget in force. -/
theorem grant_sum_le : (s.grant.map fun z => (s.cfg.zones.get z).powerW).sum ≤ s.budget := by
  unfold State.grant
  dsimp only
  generalize hfirst : grantFrom _ (s.byPriority (if s.budgetFall = true then [] else _)) s.budget = first
  have h1 := grantFrom_sum (fun z => (s.cfg.zones.get z).powerW) (s.byPriority (if s.budgetFall = true then [] else
    s.candidates.filter s.isProtected)) s.budget
  rw [hfirst] at h1
  have h2 := grantFrom_sum (fun z => (s.cfg.zones.get z).powerW) (s.byPriority (s.candidates.filter fun z =>
    !(if s.budgetFall = true then [] else s.candidates.filter s.isProtected).contains z)) first.2
  rw [List.map_append, List.sum_append]
  omega

theorem sum_map_zero {α : Type} (as : List α) : (as.map fun _ => 0).sum = 0 := by
  rw [List.map_const', List.sum_replicate_nat, Nat.mul_zero]

theorem sum_map_le {α : Type} (as : List α) (f g : α → Nat) (h : ∀ a, f a ≤ g a) : (as.map f).sum ≤ (as.map g).sum := by
  induction as with
  | nil => exact Nat.le_refl _
  | cons a as ih =>
    simp only [List.map_cons, List.sum_cons]
    exact Nat.add_le_add (h a) ih

/-- Zones of a list, each counted once, draw at most what the list draws. -/
theorem sum_members_le (power : Zone → Nat) (zs granted : List Zone) (hd : zs.Nodup) :
    (zs.map fun z => if z ∈ granted then power z else 0).sum ≤ (granted.map power).sum := by
  induction granted generalizing zs with
  | nil => exact Nat.le_of_eq (sum_map_zero zs)
  | cons g gs ih =>
    by_cases hg : g ∈ zs
    · obtain ⟨l₁, l₂, rfl⟩ := List.append_of_mem hg
      have hsplit : (l₁ ++ g :: l₂).Perm (g :: (l₁ ++ l₂)) := List.perm_middle
      have hnodup := hsplit.nodup_iff.1 hd
      obtain ⟨hnot, hrest⟩ := List.nodup_cons.1 hnodup
      have hothers : ∀ z ∈ l₁ ++ l₂, (if z ∈ g :: gs then power z else 0) = if z ∈ gs then power z else 0 := by
        intro z hz
        have hne : z ≠ g := fun e => hnot (e ▸ hz)
        simp [hne]
      rw [(hsplit.map _).sum_nat, List.map_cons, List.sum_cons, List.map_congr_left hothers, List.map_cons, List.sum_cons,
        if_pos List.mem_cons_self]
      exact Nat.add_le_add_left (ih _ hrest) _
    · have hothers : ∀ z ∈ zs, (if z ∈ g :: gs then power z else 0) = if z ∈ gs then power z else 0 := by
        intro z hz
        have hne : z ≠ g := fun e => hg (e ▸ hz)
        simp [hne]
      rw [List.map_congr_left hothers, List.map_cons, List.sum_cons]
      exact Nat.le_add_left_of_le (ih zs hd)

/-- R157, R158: a run records its budget, and leaves ON zones that draw at most that budget. -/
theorem powerRun_budget (h : s.fhc.startHold = false) :
    (powerRun s).fhc.lastBudget = some (powerRun s).budget ∧ (powerRun s).powerUsed ≤ (powerRun s).budget := by
  unfold powerRun
  rw [if_neg (by simp [h])]
  refine ⟨rfl, ?_⟩
  show (allZones.map fun z => if ((s.fhc.zones.map s.applyGrant).get z).state = .on then (s.cfg.zones.get z).powerW else 0).sum ≤
    s.budget
  refine Nat.le_trans (sum_map_le _ _ _ fun z => ?_)
    (Nat.le_trans (sum_members_le (fun z => (s.cfg.zones.get z).powerW) allZones s.grant (by decide)) (grant_sum_le s))
  rw [Zones.get_map]
  split
  · rename_i hon
    exact Nat.le_of_eq (if_pos (applyGrant_on s z hon)).symm
  · exact Nat.zero_le _

/-! ### The overflow path (R152) -/

theorem takePath_heating (b : Block) : (takePath b s).fhc.exceptRun = s.fhc.exceptRun := by
  unfold takePath
  split
  · exact (recomputeCeiling_ceilingFrame s).heating
  · exact (CeilingFrame.of_held (sequencePath_held s)).heating
  · rfl

/-- R152: after its judgement the path is PROVEN as judged, and the heating record is else as it was but for runs. -/
theorem judgePath_heating : (judgePath s).fhc.exceptRun = { s.fhc with pathProven := s.pathNow }.exceptRun := by
  unfold judgePath
  dsimp only
  split
  · rename_i h
    rw [h]
  · rw [raise_fhc]
    exact handTo_frame (fun t => t.fhc.exceptRun) _ _ _ fun b _ t => takePath_heating t b

/-- R164: what HEAT_SET hands over once the settings are replaced. -/
theorem heatChange_fhc :
    (heatChange s).fhc.pathProven = s.pathNow ∧ (heatChange s).fhc.temps = s.fhc.temps ∧
    (heatChange s).fhc.season = s.fhc.season ∧
    (s.fhc.startHold = false →
      (heatChange s).fhc.lastBudget = some (heatChange s).budget ∧ (heatChange s).powerUsed ≤ (heatChange s).budget) := by
  obtain ⟨htemps, hseason, hpath, hhold⟩ := exceptRun_fields (judgePath_heating s)
  obtain ⟨-, -, -, -, hrun⟩ := (held_iff _ _).1 (powerRun_held (judgePath s))
  obtain ⟨hrtemps, hrseason, hrpath, -⟩ := exceptRun_fields hrun
  exact ⟨hrpath.trans hpath, hrtemps.trans htemps, hrseason.trans hseason, fun h => powerRun_budget _ (hhold.trans h)⟩

end

end Sys2Proof.Machine
end

section
/-! PROOFS. STRAP_SET, GUARD_SET and HEAT_SET with every field in its range (R20, R51, R163). -/
namespace Sys2Proof.Machine

/-! ### The bodies read back -/

theorem parsePoints_fields (pts : List StrapPoint) (h : ∀ p ∈ pts, p.level ≤ 20000 ∧ p.volume ≤ 16000000) :
    parsePoints (strapFields pts).tail = pts := by
  show parsePoints (pts.flatMap fun p => [numField p.level, numField p.volume]) = pts
  induction pts with
  | nil => rfl
  | cons p pts ih =>
    obtain ⟨hl, hv⟩ := h p List.mem_cons_self
    rw [List.flatMap_cons]
    show (⟨(numField p.level).toInt.toNat, (numField p.volume).toInt.toNat⟩ : StrapPoint) ::
      parsePoints (pts.flatMap fun p => [numField p.level, numField p.volume]) = _
    rw [toNat_numField _ (by omega), toNat_numField _ (by omega), ih fun q hq => h q (List.mem_cons_of_mem _ hq)]

theorem pointsOrdered_of_neighbours (pts : List StrapPoint) (h : ∀ (i : Nat) (p q : StrapPoint), pts[i]? = some p →
    pts[i + 1]? = some q → p.level < q.level ∧ p.volume ≤ q.volume) : pointsOrdered pts = true := by
  induction pts with
  | nil => rfl
  | cons p rest ih =>
    cases rest with
    | nil => rfl
    | cons q rest =>
      obtain ⟨hl, hv⟩ := h 0 p q rfl rfl
      simp only [pointsOrdered, hl, hv, decide_true, Bool.true_and]
      exact ih fun i => h (i + 1)

theorem strapFields_length (pts : List StrapPoint) : (strapFields pts).length = 1 + 2 * pts.length := by
  rw [strapFields, List.length_cons, length_flatMap_block _ 2 pts fun _ => rfl, Nat.add_comm]

/-- R20: the body of an ordered table in its ranges passes its checks. -/
theorem strapCheck_fields (pts : List StrapPoint) (h2 : 2 ≤ pts.length) (h16 : pts.length ≤ 16)
    (hin : ∀ p ∈ pts, p.level ≤ 20000 ∧ p.volume ≤ 16000000) (ho : pointsOrdered pts = true) :
    strapCheck (4 * (strapFields pts).length) (strapFields pts) = none := by
  have hn : intAt (strapFields pts) 0 = pts.length := toInt_numField _ (by omega)
  have hcount : (!inRange 2 16 (pts.length : Int) || decide (4 * (1 + 2 * pts.length) ≠ 4 + 8 * pts.length)) = false := by
    have hrange : inRange 2 16 (pts.length : Int) = true := (inRange_iff _ _ _).2 (by omega)
    rw [hrange]
    simp
    omega
  have hfields : firstBad (strapFields pts) 1 (List.replicate pts.length [((0 : Int), (20000 : Int)), (0, 16000000)]).flatten = none := by
    refine firstBad_blocks (fun p : StrapPoint => [numField p.level, numField p.volume]) _ pts [numField pts.length]
      (fun _ _ => rfl) fun p hp j r hr => ?_
    obtain ⟨hl, hv⟩ := hin p hp
    match j, hr with
    | 0, hr => exact Option.some.inj hr ▸ inRange_numField _ _ _ (by omega) (by omega) (by omega)
    | 1, hr => exact Option.some.inj hr ▸ inRange_numField _ _ _ (by omega) (by omega) (by omega)
  unfold strapCheck
  dsimp only
  rw [hn, Int.toNat_natCast, strapFields_length, hcount, hfields, parsePoints_fields pts hin, ho]
  rfl

/-- Section 2.8: every setting of the group in its range. -/
structure GuardSettings.Fits (c : GuardSettings) : Prop where
  warnMm : 100 ≤ c.warnMm ∧ c.warnMm ≤ 20000
  warnN : 1 ≤ c.warnN ∧ c.warnN ≤ 60
  warnHystMm : c.warnHystMm ≤ 2000
  warnExitN : c.warnExitN ≤ 60
  tripMm : 100 ≤ c.tripMm ∧ c.tripMm ≤ 20000
  tripN : 1 ≤ c.tripN ∧ c.tripN ≤ 30
  spillN : 1 ≤ c.spillN ∧ c.spillN ≤ 30
  riseAfterTripMm : 10 ≤ c.riseAfterTripMm ∧ c.riseAfterTripMm ≤ 1000
  rearmMm : c.rearmMm ≤ 20000
  passRate : 1 ≤ c.passRate ∧ c.passRate ≤ 500
  passN : 1 ≤ c.passN ∧ c.passN ≤ 60
  ceilingMarginMm : c.ceilingMarginMm ≤ 5000
  frostDerateMm : c.frostDerateMm ≤ 5000
  blindMarginL : c.blindMarginL ≤ 1000000

theorem inRange_combine (x : Combine) : inRange 0 1 (numField x.code).toInt = true := by
  cases x <;> rfl

theorem combine_of_code (x : Combine) : (if (numField x.code).toInt.toNat = 0 then Combine.any else .both) = x := by
  cases x <;> rfl

/-- A field of known bounds lies in its range. -/
theorem inRange_between (lo hi n : Nat) (h : lo ≤ n ∧ n ≤ hi) (hhi : hi < 2147483648) : inRange lo hi (numField n).toInt = true :=
  inRange_numField lo hi n (by omega) (by omega) (by omega)

theorem guardFields_inRange (c : GuardSettings) (h : c.Fits) : firstBad (guardFields c) 0 guardRanges = none := by
  have upTo (hi n : Nat) (hn : n ≤ hi) := inRange_between 0 hi n ⟨Nat.zero_le n, hn⟩
  refine firstBad_of_inRanges _ _ ?_
  simp only [guardFields, guardRanges, InRanges, and_true]
  exact ⟨inRange_between 100 20000 _ h.warnMm (by omega), inRange_between 1 60 _ h.warnN (by omega), upTo 2000 _ h.warnHystMm (by omega),
    upTo 60 _ h.warnExitN (by omega), inRange_between 100 20000 _ h.tripMm (by omega), inRange_between 1 30 _ h.tripN (by omega),
    inRange_between 1 30 _ h.spillN (by omega), inRange_combine _, inRange_between 10 1000 _ h.riseAfterTripMm (by omega),
    upTo 20000 _ h.rearmMm (by omega), inRange_between 1 500 _ h.passRate (by omega), inRange_between 1 60 _ h.passN (by omega),
    upTo 5000 _ h.ceilingMarginMm (by omega), upTo 5000 _ h.frostDerateMm (by omega), inRange_twoWay _,
    upTo 1000000 _ h.blindMarginL (by omega)⟩

theorem parseGuard_fields (c : GuardSettings) (h : c.Fits) : parseGuard (guardFields c) = c := by
  obtain ⟨warnMm, warnN, warnHystMm, warnExitN, tripMm, tripN, spillN, combine, riseAfterTripMm, rearmMm, passRate, passN,
    ceilingMarginMm, frostDerateMm, blindFill, blindMarginL⟩ := c
  obtain ⟨⟨-, h0⟩, ⟨-, h1⟩, h2, h3, ⟨-, h4⟩, ⟨-, h5⟩, ⟨-, h6⟩, ⟨-, h8⟩, h9, ⟨-, h10⟩, ⟨-, h11⟩, h12, h13, h15⟩ := h
  dsimp only at *
  simp only [parseGuard, natAt, firstAt, intAt, guardFields, List.getD_cons_zero, List.getD_cons_succ, GuardSettings.mk.injEq]
  exact ⟨toNat_numField _ (by omega), toNat_numField _ (by omega), toNat_numField _ (by omega), toNat_numField _ (by omega),
    toNat_numField _ (by omega), toNat_numField _ (by omega), toNat_numField _ (by omega), combine_of_code _,
    toNat_numField _ (by omega), toNat_numField _ (by omega), toNat_numField _ (by omega), toNat_numField _ (by omega),
    toNat_numField _ (by omega), toNat_numField _ (by omega), twoWay_first _, toNat_numField _ (by omega)⟩

/-- Sections 8.8 and 6.6: every setting that HEAT_SET carries in its range. -/
structure HeatFits (c : HeatSettings) (f : FrostFillSettings) : Prop where
  frostOnT : -300 ≤ c.frostOnT ∧ c.frostOnT ≤ 100
  frostOffT : -200 ≤ c.frostOffT ∧ c.frostOffT ≤ 200
  frostPersistMin : 1 ≤ c.frostPersistMin ∧ c.frostPersistMin ≤ 720
  ovfReadyT : -100 ≤ c.ovfReadyT ∧ c.ovfReadyT ≤ 200
  budgetCheapW : c.budgetCheapW ≤ 20000
  budgetStandardW : c.budgetStandardW ≤ 20000
  budgetPeakW : c.budgetPeakW ≤ 20000
  minOnS : c.minOnS ≤ 1800
  confirmMin : 1 ≤ c.confirmMin ∧ c.confirmMin ≤ 120
  confirmRise : 1 ≤ c.confirmRise ∧ c.confirmRise ≤ 50
  prepareMaxMin : f.prepareMaxMin ≤ 240
  turnoverH : 1 ≤ f.turnoverH ∧ f.turnoverH ≤ 72
  turnoverL : 1 ≤ f.turnoverL ∧ f.turnoverL ≤ 1000000

theorem heatFields_inRange (c : HeatSettings) (f : FrostFillSettings) (h : HeatFits c f) :
    firstBad (heatSettingFields c f) 0 heatRanges = none := by
  have upTo (hi n : Nat) (hn : n ≤ hi) := inRange_between 0 hi n ⟨Nat.zero_le n, hn⟩
  have signed (lo hi x : Int) (hx : lo ≤ x ∧ x ≤ hi) := inRange_intField lo hi x hx.1 hx.2
  refine firstBad_of_inRanges _ _ ?_
  simp only [heatSettingFields, heatRanges, InRanges, and_true]
  exact ⟨signed _ _ _ h.frostOnT (by omega) (by omega), signed _ _ _ h.frostOffT (by omega) (by omega),
    inRange_between 1 720 _ h.frostPersistMin (by omega), signed _ _ _ h.ovfReadyT (by omega) (by omega),
    upTo 20000 _ h.budgetCheapW (by omega), upTo 20000 _ h.budgetStandardW (by omega), upTo 20000 _ h.budgetPeakW (by omega),
    upTo 1800 _ h.minOnS (by omega), inRange_between 1 120 _ h.confirmMin (by omega), inRange_between 1 50 _ h.confirmRise (by omega),
    upTo 240 _ h.prepareMaxMin (by omega), inRange_between 1 72 _ h.turnoverH (by omega),
    inRange_between 1 1000000 _ h.turnoverL (by omega)⟩

theorem parseHeat_fields (c : HeatSettings) (f : FrostFillSettings) (h : HeatFits c f) :
    parseHeat (heatSettingFields c f) = c ∧ parseFrostFill (heatSettingFields c f) = f := by
  obtain ⟨frostOnT, frostOffT, frostPersistMin, ovfReadyT, budgetCheapW, budgetStandardW, budgetPeakW, minOnS, confirmMin,
    confirmRise⟩ := c
  obtain ⟨prepareMaxMin, turnoverH, turnoverL⟩ := f
  obtain ⟨⟨h0, h0'⟩, ⟨h1, h1'⟩, ⟨-, h2⟩, ⟨h3, h3'⟩, h4, h5, h6, h7, ⟨-, h8⟩, ⟨-, h9⟩, h10, ⟨-, h11⟩, ⟨-, h12⟩⟩ := h
  dsimp only at *
  simp only [parseHeat, parseFrostFill, natAt, intAt, heatSettingFields, List.getD_cons_zero, List.getD_cons_succ,
    HeatSettings.mk.injEq, FrostFillSettings.mk.injEq]
  exact ⟨⟨toInt_intField _ (by omega) (by omega), toInt_intField _ (by omega) (by omega), toNat_numField _ (by omega),
    toInt_intField _ (by omega) (by omega), toNat_numField _ (by omega), toNat_numField _ (by omega), toNat_numField _ (by omega),
    toNat_numField _ (by omega), toNat_numField _ (by omega), toNat_numField _ (by omega)⟩,
    toNat_numField _ (by omega), toNat_numField _ (by omega), toNat_numField _ (by omega)⟩

/-! ### What the owners answer -/

section
variable (s : State) (tag : Byte)

@[simp] theorem drawOrder_idle : s.drawOrder.commitIdle ↔ s.commitIdle := by simp [State.commitIdle]

theorem strapSet_accepted (pts : List StrapPoint) (hs : s.free) (hc : s.commitIdle) (h2 : 2 ≤ pts.length) (h16 : pts.length ≤ 16)
    (hin : ∀ p ∈ pts, p.level ≤ 20000 ∧ p.volume ≤ 16000000) (ho : pointsOrdered pts = true) :
    request 0x05 tag (strapFields pts) s =
      (recomputeCeiling (setWorking { s.cfg with strap := pts } s)).answered 0x85 tag [] := by
  refine request_accepted 0x05 tag (strapFields pts) .counted s _ hs rfl
    (by rw [strapFields_length]; exact decide_eq_true (by omega)) (noCommit_of_idle _ _ hc) ?_
  show strapSet _ _ _ = _
  rw [strapSet, strapCheck_fields pts h2 h16 hin ho, parsePoints_fields pts hin]

theorem guardSet_accepted (c : GuardSettings) (hs : s.free) (hc : s.commitIdle) (h : c.Fits) (hcons : guardConsistent c = true) :
    request 0x07 tag (guardFields c) s = (guardChange (setWorking { s.cfg with ofg := c } s)).answered 0x87 tag [] := by
  refine request_accepted 0x07 tag (guardFields c) (.exact 64) s _ hs rfl rfl (noCommit_of_idle _ _ hc) ?_
  show guardSet _ _ = _
  rw [guardSet, parseGuard_fields c h]
  exact judgeSet_accepted _ _ _ s (guardFields_inRange c h) hcons

theorem heatSet_accepted (c : HeatSettings) (f : FrostFillSettings) (hs : s.free) (hc : s.commitIdle) (h : HeatFits c f)
    (hcons : c.frostOnT < c.frostOffT) :
    request 0x1C tag (heatSettingFields c f) s =
      (heatChange (setWorking { s.cfg with heat := c, frostFill := f } s)).answered 0x9C tag [] := by
  obtain ⟨hheat, hfill⟩ := parseHeat_fields c f h
  refine request_accepted 0x1C tag (heatSettingFields c f) (.exact 52) s _ hs rfl rfl (noCommit_of_idle _ _ hc) ?_
  show heatSet _ _ = _
  rw [heatSet, hheat, hfill]
  exact judgeSet_accepted _ _ _ s (heatFields_inRange c f h) (decide_eq_true hcons)

end

/-- R152: the path as judged under new settings. -/
theorem pathNow_setWorking (w : Settings) (s : State) :
    (s.fhc.season = .out → (setWorking w s).pathNow = true) ∧
    (s.fhc.season ≠ .out → ∀ v, s.fhc.temps.overflow.reading = some v → (setWorking w s).pathNow = decide (w.heat.ovfReadyT ≤ v)) ∧
    (s.fhc.season ≠ .out → s.fhc.temps.overflow.reading = none → (setWorking w s).pathNow = false) := by
  have hpath : (setWorking w s).pathNow = if s.fhc.season.reportedIn then
      match s.fhc.temps.overflow.reading with
      | some v => decide (w.heat.ovfReadyT ≤ v)
      | none => false
    else true := rfl
  have hin (h : s.fhc.season ≠ .out) : s.fhc.season.reportedIn = true := by
    cases hseason : s.fhc.season with
    | out => exact absurd hseason h
    | unknown | inSeason => rfl
  rw [hpath]
  exact ⟨fun h => by rw [h]; rfl, fun h v hv => by rw [hin h, hv]; rfl, fun h hn => by rw [hin h, hn]; rfl⟩

/-! ### What an accepted body brings about -/

section
variable (s : State) (tag : Byte)

theorem strapSet_effect (pts : List StrapPoint) : ∀ t,
    t = (recomputeCeiling (setWorking { s.cfg with strap := pts } s)).answered 0x85 tag [] →
    t.replied 0x85 tag [] ∧ t.cfg = { s.cfg with strap := pts } ∧ t.ofg.ceilingMm = ceilingOf s.cfg.ofg s.fhc.pathProven ∧
    t.ofg.ceilingVolume = volumeAt pts t.ofg.ceilingMm ∧ t.lmu = s.lmu ∧ t.tck = s.tck ∧ t.ofg.state = s.ofg.state := by
  rintro t rfl
  let w := setWorking { s.cfg with strap := pts } s
  obtain ⟨hlmu, htck, hcfg, -⟩ := (fixed_iff _ _).1 (recomputeCeiling_fixed w)
  obtain ⟨hmm, hvolume⟩ := recomputeCeiling_ceiling w
  exact ⟨answered_replied .., hcfg, hmm, hvolume.trans (congrArg (volumeAt pts) hmm.symm), hlmu, htck,
    (recomputeCeiling_ceilingFrame w).state⟩

theorem guardSet_effect (c : GuardSettings) : ∀ t,
    t = (guardChange (setWorking { s.cfg with ofg := c } s)).answered 0x87 tag [] →
    t.replied 0x87 tag [] ∧ t.cfg = { s.cfg with ofg := c } ∧
    t.ofg.ceilingMm = c.warnMm - c.ceilingMarginMm - (if s.fhc.pathProven then 0 else c.frostDerateMm) ∧
    t.ofg.ceilingVolume = volumeAt s.cfg.strap t.ofg.ceilingMm ∧ t.ofg.test = none ∧ t.ofg.state = s.ofg.state ∧
    t.ofg.granted = (withdrawal c.blindFill t.ofg).isNone ∧ t.ofg.budget = s.ofg.budget ∧ t.lmu = s.lmu ∧ t.tck = s.tck := by
  rintro t rfl
  let w := setWorking { s.cfg with ofg := c } s
  obtain ⟨hlmu, htck, hcfg, -⟩ := (fixed_iff _ _).1 (guardChange_fixed w)
  obtain ⟨hmm, hvolume, htest, hstate, hgranted, hbudget⟩ := guardChange_ofg w
  exact ⟨answered_replied .., hcfg, hmm, hvolume.trans (congrArg (volumeAt s.cfg.strap) hmm.symm), htest, hstate, hgranted, hbudget,
    hlmu, htck⟩

theorem heatSet_effect (c : HeatSettings) (f : FrostFillSettings) : ∀ t,
    t = (heatChange (setWorking { s.cfg with heat := c, frostFill := f } s)).answered 0x9C tag [] →
    t.replied 0x9C tag [] ∧ t.cfg = { s.cfg with heat := c, frostFill := f } ∧
    (s.fhc.season = .out → t.fhc.pathProven = true) ∧
    (s.fhc.season ≠ .out → ∀ v, s.fhc.temps.overflow.reading = some v → t.fhc.pathProven = decide (c.ovfReadyT ≤ v)) ∧
    (s.fhc.season ≠ .out → s.fhc.temps.overflow.reading = none → t.fhc.pathProven = false) ∧
    (s.fhc.startHold = false → t.fhc.lastBudget = some t.budget ∧ t.powerUsed ≤ t.budget) ∧
    t.fhc.temps = s.fhc.temps ∧ t.fhc.season = s.fhc.season ∧ t.lmu = s.lmu ∧ t.tck = s.tck := by
  rintro t rfl
  let w := setWorking { s.cfg with heat := c, frostFill := f } s
  obtain ⟨hlmu, htck, hcfg, -⟩ := (fixed_iff _ _).1 (heatChange_fixed w)
  obtain ⟨hpath, htemps, hseason, hrun⟩ := heatChange_fhc w
  obtain ⟨hout, hvalid, hinvalid⟩ := pathNow_setWorking { s.cfg with heat := c, frostFill := f } s
  exact ⟨answered_replied .., hcfg, fun h => hpath.trans (hout h), fun h v hv => hpath.trans (hvalid h v hv),
    fun h hn => hpath.trans (hinvalid h hn), hrun, htemps, hseason, hlmu, htck⟩

end

end Sys2Proof.Machine

section
open Sys2Proof Sys2Proof.Machine

/-- Settles O50: each body passes its checks and reads back as the settings it carries; then what the owner hands over. -/
theorem setStrapGuardHeat : Obligations.SetStrapGuardHeat := by
  refine ⟨fun s tag pts hs hc h2 h16 hin hnext => ?_, fun s tag c hs hc => ?_, fun s tag c f hs hc => ?_⟩
  · have hrequest := strapSet_accepted s.drawOrder tag pts ((drawOrder_free s).2 hs) ((drawOrder_idle s).2 hc) h2 h16 hin
      (pointsOrdered_of_neighbours pts hnext)
    have heffect := strapSet_effect s.drawOrder tag pts _ hrequest
    simp only [drawOrder_cfg, drawOrder_fhc, drawOrder_lmu, drawOrder_tck, drawOrder_ofg] at heffect
    exact ⟨_, rfl, heffect⟩
  · intro hwarn hwarnN hwarnN' hhyst hexit htrip htripN htripN' hspill hspill' hrise hrise' hrate hrate' hpass hpass' hmargin hderate
      hblind hbelow hrearm hhystBelow hceiling
    have hfits : c.Fits := by constructor <;> omega
    have hcons : guardConsistent c = true := by simp [guardConsistent, hbelow, hrearm, hhystBelow, hceiling]
    have hrequest := guardSet_accepted s.drawOrder tag c ((drawOrder_free s).2 hs) ((drawOrder_idle s).2 hc) hfits hcons
    have heffect := guardSet_effect s.drawOrder tag c _ hrequest
    simp only [drawOrder_cfg, drawOrder_fhc, drawOrder_lmu, drawOrder_tck, drawOrder_ofg] at heffect
    exact ⟨_, rfl, heffect⟩
  · intro hon hon' hbelow hoff hoff' hpersist hpersist' hready hready' hcheap hstandard hpeak hmin hconfirm hconfirm' hrise hrise'
      hprepare hturnH hturnH' hturnL hturnL'
    have hfits : HeatFits c f := by constructor <;> omega
    have hrequest := heatSet_accepted s.drawOrder tag c f ((drawOrder_free s).2 hs) ((drawOrder_idle s).2 hc) hfits hbelow
    have heffect := heatSet_effect s.drawOrder tag c f _ hrequest
    simp only [drawOrder_cfg, drawOrder_fhc, drawOrder_lmu, drawOrder_tck] at heffect
    exact ⟨_, rfl, heffect⟩

end
end

section
/-! PROOFS. Refusals of SET requests (R185, R186, R195): by length, by a commit in flight, by a field out of its range, by a check beyond
the ranges. -/
namespace Sys2Proof.Machine

/-! ### A request refused -/

section
variable (kind tag : Byte) (fs : List Word) (form : BodyForm) (s : State)

theorem request_of_judged (a : Answer) (hs : s.free) (hj : judgeRequest ⟨kind, tag, fieldBytes fs⟩ s = (a, s)) :
    request kind tag fs s = placeReply ⟨kind, tag, fieldBytes fs⟩ a s := by
  rw [request, placeRequest_free s _ hs, hj]

/-- R185: a body of another length than the kind's. -/
theorem request_badLength (hs : s.free) (hk : bodyForm kind = some form) (hl : form.allows (4 * fs.length) = false) :
    request kind tag fs s = s.refused tag kind 2 [] := by
  rw [request_of_judged kind tag fs s (.refuse .badLength []) hs]
  · rfl
  · simp [judgeRequest, hk, hl]

/-- R195: a request that waits for a commit in flight. -/
theorem request_busy (hs : s.free) (hk : bodyForm kind = some form) (hl : form.allows (4 * fs.length) = true)
    (hw : waitsForCommit kind = true) (hc : s.sst.writing.isSome = true) :
    request kind tag fs s = s.refused tag kind 5 [1] := by
  rw [request_of_judged kind tag fs s busyCommit hs]
  · rfl
  · simp [judgeRequest, hk, hl, hw, hc]

/-- R186: a request that its owner refuses. -/
theorem request_refused (reason : Reason) (detail : List Byte) (hs : s.free) (hk : bodyForm kind = some form)
    (hl : form.allows (4 * fs.length) = true) (hc : (waitsForCommit kind && s.sst.writing.isSome) = false)
    (ho : owner kind (4 * fs.length) fs s = (.refuse reason detail, s)) :
    request kind tag fs s = s.refused tag kind reason.code detail := by
  rw [request_owner kind tag fs form s hs hk hl hc, ho]
  rfl

end

theorem judgeSet_bad (bad : Option Nat) (i : Nat) (consistent : Bool) (accepted : State → State) (s : State) (h : bad = some i) :
    judgeSet bad consistent accepted s = (badValue i, s) := by
  rw [h]
  rfl

theorem judgeSet_inconsistent (bad : Option Nat) (consistent : Bool) (accepted : State → State) (s : State) (hb : bad = none)
    (hc : consistent = false) : judgeSet bad consistent accepted s = (inconsistent, s) := by
  rw [hb, hc]
  rfl

/-! ### The draw of an order -/

theorem drawOrder_drawnAs (s : State) : s.drawOrder.drawnAs s = s := by
  simp [State.drawOrder, State.drawnAs, State.withOrder, State.withDraws]

/-- A refusal on a state that differs in the draw of an order only. -/
theorem refused_drawnAs (u s : State) (h : u.drawnAs s = s) (tag kind reason : Byte) (detail : List Byte) :
    (u.refused tag kind reason detail).drawnAs s = s.refused tag kind reason detail :=
  congrArg (State.refused · tag kind reason detail) h

/-- A refused request with or without the draw of an order. -/
theorem refused_as {i : Instr} {kind tag : Byte} {fs : List Word} {reason : Byte} {detail : List Byte} {u s : State}
    (hu : u.drawnAs s = s) (he : exec i s = .next (request kind tag fs u))
    (hr : request kind tag fs u = u.refused tag kind reason detail) :
    ∃ t, exec i s = .next t ∧ t.drawnAs s = s.refused tag kind reason detail :=
  ⟨_, he.trans (congrArg _ hr), refused_drawnAs u s hu tag kind reason detail⟩

theorem drawnAs_free {u s : State} (hu : u.drawnAs s = s) (hs : s.free) : u.free := by
  have hsvp : u.svp = s.svp := show (u.drawnAs s).svp = s.svp by rw [hu]
  rw [State.free, hsvp]
  exact hs

theorem drawnAs_writing {u s : State} (hu : u.drawnAs s = s) : u.sst.writing = s.sst.writing :=
  show (u.drawnAs s).sst.writing = s.sst.writing by rw [hu]

/-! ### The SET requests whose fields each have a range -/

/-- A SET request of a kind, with a range for each of its fields in turn and one check beyond them. -/
structure SetGroup (i : Byte → List Word → Instr) (kind : Byte) (ranges : List (Int × Int)) : Prop where
  runs : ∀ tag fs (s : State), ∃ u : State, u.drawnAs s = s ∧ exec (i tag fs) s = .next (request kind tag fs u)
  form : bodyForm kind = some (.exact (4 * ranges.length))
  waits : waitsForCommit kind = true
  judged : ∀ bytes fs (s : State), ∃ consistent accepted,
    owner kind bytes fs s = judgeSet (firstBad fs 0 ranges) consistent accepted s

namespace SetGroup
variable {i : Byte → List Word → Instr} {kind : Byte} {ranges : List (Int × Int)} (g : SetGroup i kind ranges) (s : State) (tag : Byte)
  (fs : List Word) (hs : s.free)
include g hs

theorem badLength (hl : fs.length ≠ ranges.length) :
    ∃ t, exec (i tag fs) s = .next t ∧ t.drawnAs s = s.refused tag kind 2 [] := by
  obtain ⟨u, hu, he⟩ := g.runs tag fs s
  exact refused_as hu he (request_badLength kind tag fs _ u (drawnAs_free hu hs) g.form (decide_eq_false (by omega)))

theorem busy (hl : fs.length = ranges.length) (hc : s.sst.writing.isSome = true) :
    ∃ t, exec (i tag fs) s = .next t ∧ t.drawnAs s = s.refused tag kind 5 [1] := by
  obtain ⟨u, hu, he⟩ := g.runs tag fs s
  refine refused_as hu he (request_busy kind tag fs _ u (drawnAs_free hu hs) g.form (decide_eq_true (by rw [hl])) g.waits ?_)
  rw [drawnAs_writing hu]
  exact hc

theorem badValue (j : Nat) (r : Int × Int) (hl : fs.length = ranges.length) (hc : s.commitIdle) (hr : ranges[j]? = some r)
    (hbad : inRange r.1 r.2 (intAt fs j) = false)
    (hok : ∀ (k : Nat) (q : Int × Int), k < j → ranges[k]? = some q → inRange q.1 q.2 (intAt fs k) = true) :
    ∃ t, exec (i tag fs) s = .next t ∧ t.drawnAs s = s.refused tag kind 3 [BitVec.ofNat 8 j] := by
  obtain ⟨u, hu, he⟩ := g.runs tag fs s
  obtain ⟨consistent, accepted, ho⟩ := g.judged (4 * fs.length) fs u
  have hfirst : firstBad fs 0 ranges = some j := by
    rw [← Nat.zero_add j]
    exact firstBad_eq_some fs 0 j ranges r hr (by rw [Nat.zero_add]; exact hbad)
      fun k q hk hq => by rw [Nat.zero_add]; exact hok k q hk hq
  exact refused_as hu he (request_refused kind tag fs _ u .badValue _ (drawnAs_free hu hs) g.form (decide_eq_true (by rw [hl]))
    (noCommit_of_idle kind u ((drawnAs_writing hu).trans hc)) (ho.trans (judgeSet_bad _ j _ _ u hfirst)))

end SetGroup

section
variable (fs : List Word) (s : State)

theorem guardSet_judged : ∃ consistent accepted, guardSet fs s = judgeSet (firstBad fs 0 guardRanges) consistent accepted s := by
  unfold guardSet; exact ⟨_, _, rfl⟩
theorem valveSet_judged : ∃ consistent accepted, valveSet fs s = judgeSet (firstBad fs 0 valveRanges) consistent accepted s := by
  unfold valveSet; exact ⟨_, _, rfl⟩
theorem lineSet_judged : ∃ consistent accepted, lineSet fs s = judgeSet (firstBad fs 0 lineRanges) consistent accepted s := by
  unfold lineSet; exact ⟨_, _, rfl⟩
theorem planSet_judged : ∃ consistent accepted, planSet fs s = judgeSet (firstBad fs 0 planRanges) consistent accepted s := by
  unfold planSet; exact ⟨_, _, rfl⟩
theorem heatSet_judged : ∃ consistent accepted, heatSet fs s = judgeSet (firstBad fs 0 heatRanges) consistent accepted s := by
  unfold heatSet; exact ⟨_, _, rfl⟩
theorem zoneSet_judged : ∃ consistent accepted, zoneSet fs s = judgeSet (firstBad fs 0 zoneRanges) consistent accepted s := by
  unfold zoneSet; exact ⟨_, _, rfl⟩
theorem historySet_judged : ∃ consistent accepted, historySet fs s = judgeSet (firstBad fs 0 historyRanges) consistent accepted s := by
  unfold historySet; exact ⟨_, _, rfl⟩

end

theorem setGroup_guard : SetGroup .guardSet 0x07 guardRanges :=
  ⟨fun _ _ s => ⟨s.drawOrder, drawOrder_drawnAs s, rfl⟩, rfl, rfl, fun _ => guardSet_judged⟩
theorem setGroup_valve : SetGroup .valveSet 0x0B valveRanges := ⟨fun _ _ s => ⟨s, rfl, rfl⟩, rfl, rfl, fun _ => valveSet_judged⟩
theorem setGroup_line : SetGroup .lineSet 0x0E lineRanges := ⟨fun _ _ s => ⟨s, rfl, rfl⟩, rfl, rfl, fun _ => lineSet_judged⟩
theorem setGroup_plan : SetGroup .planSet 0x15 planRanges := ⟨fun _ _ s => ⟨s, rfl, rfl⟩, rfl, rfl, fun _ => planSet_judged⟩
theorem setGroup_heat : SetGroup .heatSet 0x1C heatRanges :=
  ⟨fun _ _ s => ⟨s.drawOrder, drawOrder_drawnAs s, rfl⟩, rfl, rfl, fun _ => heatSet_judged⟩
theorem setGroup_zone : SetGroup .zoneSet 0x1E zoneRanges := ⟨fun _ _ s => ⟨s, rfl, rfl⟩, rfl, rfl, fun _ => zoneSet_judged⟩
theorem setGroup_history : SetGroup .historySet 0x20 historyRanges :=
  ⟨fun _ _ s => ⟨s, rfl, rfl⟩, rfl, rfl, fun _ => historySet_judged⟩

/-! ### Checks beyond the ranges -/

/-- A body with every field in its range, and a check beyond the ranges that fails. -/
theorem SetGroup.inconsistent {i : Byte → List Word → Instr} {kind : Byte} {ranges : List (Int × Int)} (g : SetGroup i kind ranges)
    (s : State) (tag : Byte) (fs : List Word) (hs : s.free) (hc : s.commitIdle) (hl : fs.length = ranges.length)
    (hfail : ∀ (bytes : Nat) (u : State), owner kind bytes fs u = (Machine.inconsistent, u)) :
    ∃ t, exec (i tag fs) s = .next t ∧ t.drawnAs s = s.refused tag kind 4 [] := by
  obtain ⟨u, hu, he⟩ := g.runs tag fs s
  exact refused_as hu he (request_refused kind tag fs _ u .inconsistent [] (drawnAs_free hu hs) g.form (decide_eq_true (by rw [hl]))
    (noCommit_of_idle kind u ((drawnAs_writing hu).trans hc)) (hfail _ u))

/-- Every field of a body lies in its range. -/
def FieldsFit (fs : List Word) (rs : List (Int × Int)) : Prop :=
  ∀ (j : Nat) (q : Int × Int), rs[j]? = some q → inRange q.1 q.2 (intAt fs j) = true

theorem firstBad_of_fieldsFit (fs : List Word) (rs : List (Int × Int)) (h : FieldsFit fs rs) : firstBad fs 0 rs = none :=
  firstBad_eq_none fs 0 rs fun j q hq => by rw [Nat.zero_add]; exact h j q hq

/-- R51: the four comparisons of a guard body, made on its fields. -/
theorem guardConsistent_parse (fs : List Word) (h : FieldsFit fs guardRanges)
    (hfail : intAt fs 4 ≤ intAt fs 0 ∨ intAt fs 0 ≤ intAt fs 9 ∨ intAt fs 0 ≤ intAt fs 2 ∨
      intAt fs 0 ≤ intAt fs 12 + intAt fs 13) :
    guardConsistent (parseGuard fs) = false := by
  have nonneg (j : Nat) (q : Int × Int) (hq : guardRanges[j]? = some q) (hpos : 0 ≤ q.1) : 0 ≤ intAt fs j :=
    Int.le_trans hpos ((inRange_iff _ _ _).1 (h j q hq)).1
  have h12 := nonneg 12 _ rfl (by decide)
  have h13 := nonneg 13 _ rfl (by decide)
  have hnot : ¬(natAt fs 0 < natAt fs 4 ∧ natAt fs 9 < natAt fs 0 ∧ natAt fs 2 < natAt fs 0 ∧
      natAt fs 12 + natAt fs 13 < natAt fs 0) := by
    unfold natAt
    omega
  rw [← Bool.not_eq_true]
  refine fun hcons => hnot ?_
  simp only [guardConsistent, Bool.and_eq_true, decide_eq_true_eq, and_assoc] at hcons
  exact hcons

theorem guardSet_inconsistent (fs : List Word) (h : FieldsFit fs guardRanges)
    (hfail : intAt fs 4 ≤ intAt fs 0 ∨ intAt fs 0 ≤ intAt fs 9 ∨ intAt fs 0 ≤ intAt fs 2 ∨
      intAt fs 0 ≤ intAt fs 12 + intAt fs 13)
    (s : State) : guardSet fs s = (inconsistent, s) := by
  unfold guardSet
  exact judgeSet_inconsistent _ _ _ s (firstBad_of_fieldsFit fs _ h) (guardConsistent_parse fs h hfail)

theorem heatSet_inconsistent (fs : List Word) (h : FieldsFit fs heatRanges) (hfail : intAt fs 1 ≤ intAt fs 0) (s : State) : heatSet fs s = (inconsistent, s) := by
  unfold heatSet
  exact judgeSet_inconsistent _ _ _ s (firstBad_of_fieldsFit fs _ h) (decide_eq_false (Int.not_lt.2 hfail))

/-- R165: a zone body whose OFF threshold is not above its ON threshold. -/
theorem zoneSet_inconsistent (z : Zone) (c : ZoneSettings) (s : State) (hoff : -300 ≤ c.offT) (hle : c.offT ≤ c.onT)
    (hon : c.onT ≤ 300) (hpower : c.powerW ≤ 6000) (hpriority : c.priority ≤ 7) :
    zoneSet [numField (zoneNumber z), intField c.onT, intField c.offT, numField c.powerW, numField c.priority, twoWay c.enabled] s =
      (inconsistent, s) := by
  have hzone : 1 ≤ zoneNumber z ∧ zoneNumber z ≤ 4 := by cases z <;> decide
  unfold zoneSet
  refine judgeSet_inconsistent _ _ _ s (firstBad_of_inRanges _ _ ?_) ?_
  · simp only [zoneRanges, InRanges, and_true]
    exact ⟨inRange_between 1 4 _ hzone (by omega), inRange_intField _ _ _ (by omega) hon (by omega) (by omega),
      inRange_intField _ _ _ hoff (by omega) (by omega) (by omega), inRange_between 0 6000 _ ⟨Nat.zero_le _, hpower⟩ (by omega),
      inRange_between 0 7 _ ⟨Nat.zero_le _, hpriority⟩ (by omega), inRange_twoWay _⟩
  · refine decide_eq_false (Int.not_lt.2 ?_)
    show (intField c.offT).toInt ≤ (intField c.onT).toInt
    rw [toInt_intField _ (by omega) (by omega), toInt_intField _ (by omega) (by omega)]
    exact hle

/-! ### SENSOR_SET (R24) -/

/-- R24: the set of periods. -/
theorem sensorPeriod_iff (x : Int) : [1, 2, 5, 10].contains x = true ↔ x = 1 ∨ x = 2 ∨ x = 5 ∨ x = 10 := by
  simp

theorem sensorBad_of_period (fs : List Word) (h : intAt fs 0 = 1 ∨ intAt fs 0 = 2 ∨ intAt fs 0 = 5 ∨ intAt fs 0 = 10) :
    sensorBad fs = firstBad fs 0 sensorRanges := if_pos ((sensorPeriod_iff _).2 h)

theorem sensorBad_of_no_period (fs : List Word) (h : ¬(intAt fs 0 = 1 ∨ intAt fs 0 = 2 ∨ intAt fs 0 = 5 ∨ intAt fs 0 = 10)) :
    sensorBad fs = some 0 := if_neg (mt (sensorPeriod_iff _).1 h)

theorem sensorSet_refused (s : State) (tag : Byte) (fs : List Word) (reason : Reason) (detail : List Byte) (hs : s.free) (hc : s.commitIdle)
    (hl : fs.length = 18) (ho : sensorSet fs s = (.refuse reason detail, s)) :
    exec (.sensorSet tag fs) s = .next (s.refused tag 0x03 reason.code detail) :=
  congrArg Host.Outcome.next (request_refused 0x03 tag fs (.exact 72) s reason detail hs rfl (decide_eq_true (by rw [hl]))
    (noCommit_of_idle _ s hc) ho)

end Sys2Proof.Machine
end

section
/-! PROOFS. The checks of STRAP_SET and TARIFF_SET bodies (R20, R75), and the first two windows that share a minute (log entry 35). -/
namespace Sys2Proof.Machine

/-! ### Ranges that repeat -/

/-- The ranges of fields that repeat in blocks. -/
theorem flatten_replicate_getElem? {α : Type} (block : List α) (n j : Nat) (hj : j < n * block.length) :
    (List.replicate n block).flatten[j]? = block[j % block.length]? := by
  induction n generalizing j with
  | zero => omega
  | succ n ih =>
    rw [List.replicate_succ, List.flatten_cons]
    by_cases h : j < block.length
    · rw [List.getElem?_append_left h, Nat.mod_eq_of_lt h]
    · rw [Nat.succ_mul] at hj
      rw [List.getElem?_append_right (by omega), ih _ (by omega), ← Nat.mod_eq_sub_mod (by omega)]

theorem flatten_replicate_length {α : Type} (block : List α) (n : Nat) :
    (List.replicate n block).flatten.length = n * block.length := by
  simp

/-- The first bad field of a body whose fields after the count repeat in blocks; `ok` is the check of each field. -/
theorem firstBad_repeated (fs : List Word) (n i : Nat) (block : List (Int × Int)) (ok : Nat → Bool)
    (hok : ∀ j r, block[j % block.length]? = some r → inRange r.1 r.2 (intAt fs (1 + j)) = ok (1 + j))
    (h1 : 1 ≤ i) (hi : i < 1 + n * block.length) (hbad : ok i = false) (hgood : ∀ j, 1 ≤ j → j < i → ok j = true) :
    firstBad fs 1 (List.replicate n block).flatten = some i := by
  obtain ⟨k, rfl⟩ : ∃ k, i = 1 + k := ⟨i - 1, by omega⟩
  have hk : k < n * block.length := by omega
  have hpos : 0 < block.length := Nat.pos_of_ne_zero fun h => by rw [h, Nat.mul_zero] at hk; omega
  have hmod := Nat.mod_lt k hpos
  refine firstBad_eq_some fs 1 k _ block[k % block.length] ?_ ?_ fun j q hj hq => ?_
  · rw [flatten_replicate_getElem? block n k hk, List.getElem?_eq_getElem hmod]
  · rw [hok k _ (List.getElem?_eq_getElem hmod)]
    exact hbad
  · rw [flatten_replicate_getElem? block n j (by omega)] at hq
    rw [hok j q hq]
    exact hgood (1 + j) (by omega) (by omega)

theorem firstBad_repeated_none (fs : List Word) (n : Nat) (block : List (Int × Int)) (ok : Nat → Bool)
    (hok : ∀ j r, block[j % block.length]? = some r → inRange r.1 r.2 (intAt fs (1 + j)) = ok (1 + j))
    (hgood : ∀ j, 1 ≤ j → j < 1 + n * block.length → ok j = true) :
    firstBad fs 1 (List.replicate n block).flatten = none := by
  refine firstBad_eq_none fs 1 _ fun j q hq => ?_
  have hj : j < n * block.length := by
    rw [← flatten_replicate_length]
    exact (List.getElem?_eq_some_iff.1 hq).1
  rw [flatten_replicate_getElem? block n j hj] at hq
  rw [hok j q hq]
  exact hgood (1 + j) (by omega) (by omega)

theorem four_mul_count (size m : Nat) : 4 * (1 + m * size) = 4 + 4 * size * m := by
  rw [Nat.mul_add, Nat.mul_one, Nat.mul_comm m, Nat.mul_assoc]

/-- A count field in its range that fits the number of fields after it, `size` to an entry, fits the bytes of the body. -/
theorem count_fits (lo hi n : Int) (len size : Nat) (hlo : 0 ≤ lo) (hn : inRange lo hi n = true) (hl : (len : Int) = 1 + size * n) :
    (!inRange lo hi n || decide (4 * len ≠ 4 + 4 * size * n.toNat)) = false ∧ len = 1 + n.toNat * size := by
  obtain ⟨hn1, -⟩ := (inRange_iff _ _ _).1 hn
  obtain ⟨m, rfl⟩ : ∃ m : Nat, n = m := ⟨n.toNat, by omega⟩
  have hlen : len = 1 + m * size := by
    have : (len : Int) = ((1 + m * size : Nat) : Int) := by
      rw [hl, Int.natCast_add, Int.natCast_mul, Int.mul_comm]
      rfl
    exact Int.ofNat.inj this
  rw [hn, Int.toNat_natCast]
  refine ⟨?_, hlen⟩
  simp only [Bool.not_true, Bool.false_or, decide_eq_false_iff_not, ne_eq, Decidable.not_not]
  rw [hlen, four_mul_count]

/-- A count field out of its range, or one that does not fit the number of fields, fails the first check. -/
theorem count_unfit (lo hi n : Int) (len size : Nat) (hlo : 0 ≤ lo) (h : inRange lo hi n = false ∨ (len : Int) ≠ 1 + size * n) :
    (!inRange lo hi n || decide (4 * len ≠ 4 + 4 * size * n.toNat)) = true := by
  obtain h | h := h
  · rw [h]
    rfl
  · cases hn : inRange lo hi n with
    | false => rfl
    | true =>
      obtain ⟨hn1, -⟩ := (inRange_iff _ _ _).1 hn
      obtain ⟨m, rfl⟩ : ∃ m : Nat, n = m := ⟨n.toNat, by omega⟩
      refine decide_eq_true fun hlen => h ?_
      rw [Int.toNat_natCast] at hlen
      rw [← four_mul_count] at hlen
      rw [Nat.eq_of_mul_eq_mul_left (by omega) hlen, Int.natCast_add, Int.natCast_mul, Int.mul_comm]
      rfl

/-! ### STRAP_SET (R20) -/

/-- R20: the check of one field of a STRAP_SET body. -/
def strapFieldOk (fs : List Word) (i : Nat) : Bool := inRange 0 (if i % 2 = 1 then 20000 else 16000000) (intAt fs i)

theorem strapFieldOk_block (fs : List Word) (j : Nat) (r : Int × Int)
    (h : [((0 : Int), (20000 : Int)), (0, 16000000)][j % 2]? = some r) :
    inRange r.1 r.2 (intAt fs (1 + j)) = strapFieldOk fs (1 + j) := by
  obtain hj | hj := Nat.mod_two_eq_zero_or_one j
  · rw [hj] at h
    obtain rfl := Option.some.inj h
    rw [strapFieldOk, if_pos (by omega)]
  · rw [hj] at h
    obtain rfl := Option.some.inj h
    rw [strapFieldOk, if_neg (by omega)]

section
variable (fs : List Word)

theorem strapCheck_count (h : inRange 2 16 (intAt fs 0) = false ∨ (fs.length : Int) ≠ 1 + 2 * intAt fs 0) :
    strapCheck (4 * fs.length) fs = some (badValue 0) :=
  if_pos (count_unfit 2 16 (intAt fs 0) fs.length 2 (by omega) h)

variable (hn : inRange 2 16 (intAt fs 0) = true) (hl : (fs.length : Int) = 1 + 2 * intAt fs 0)
include hn hl

theorem strapCheck_field (i : Nat) (h1 : 1 ≤ i) (hi : i < fs.length) (hbad : strapFieldOk fs i = false)
    (hgood : ∀ j, 1 ≤ j → j < i → strapFieldOk fs j = true) : strapCheck (4 * fs.length) fs = some (badValue i) := by
  obtain ⟨hfit, hlen⟩ := count_fits 2 16 (intAt fs 0) fs.length 2 (by omega) hn hl
  have hfirst := firstBad_repeated fs (intAt fs 0).toNat i [((0 : Int), (20000 : Int)), (0, 16000000)] (strapFieldOk fs)
    (strapFieldOk_block fs) h1 (hlen ▸ hi) hbad hgood
  unfold strapCheck
  dsimp only
  rw [if_neg (by rw [hfit]; simp), hfirst]

theorem strapCheck_order (hgood : ∀ j, 1 ≤ j → j < fs.length → strapFieldOk fs j = true)
    (ho : pointsOrdered (parsePoints fs.tail) = false) : strapCheck (4 * fs.length) fs = some inconsistent := by
  obtain ⟨hfit, hlen⟩ := count_fits 2 16 (intAt fs 0) fs.length 2 (by omega) hn hl
  have hfirst := firstBad_repeated_none fs (intAt fs 0).toNat [((0 : Int), (20000 : Int)), (0, 16000000)] (strapFieldOk fs)
    (strapFieldOk_block fs) fun j h1 hj => hgood j h1 (hlen ▸ hj)
  unfold strapCheck
  dsimp only
  rw [if_neg (by rw [hfit]; simp), hfirst]
  dsimp only
  rw [if_neg (by rw [ho]; simp)]

end

/-- The points of a body, field by field. -/
theorem parsePoints_getElem? (ws : List Word) (k : Nat) (h : 2 * k + 1 < ws.length) :
    (parsePoints ws)[k]? = some ⟨(ws.getD (2 * k) 0).toInt.toNat, (ws.getD (2 * k + 1) 0).toInt.toNat⟩ := by
  induction k generalizing ws with
  | zero =>
    match ws, h with
    | l :: v :: rest, _ => rfl
  | succ k ih =>
    match ws, h with
    | l :: v :: rest, h =>
      rw [parsePoints, List.getElem?_cons_succ, ih rest (by simp only [List.length_cons] at h; omega)]
      rfl

theorem intAt_tail (fs : List Word) (i : Nat) : (fs.tail.getD i 0).toInt = intAt fs (i + 1) := by
  cases fs <;> rfl

/-- R20: two neighbouring points of a body of whole points, where the levels do not rise or the volumes fall. -/
theorem points_not_ordered (fs : List Word) (hodd : fs.length % 2 = 1) (i : Nat) (hi : i + 2 < fs.length)
    (hgood : strapFieldOk fs (i + 2) = true) (hfail : i % 2 = 1 ∧ intAt fs (i + 2) ≤ intAt fs i ∨
      i % 2 = 0 ∧ 2 ≤ i ∧ intAt fs (i + 2) < intAt fs i) :
    pointsOrdered (parsePoints fs.tail) = false := by
  rw [← Bool.not_eq_true]
  intro ho
  have point (k : Nat) (hk : 2 * k + 2 < fs.length) :
      (parsePoints fs.tail)[k]? = some ⟨(intAt fs (2 * k + 1)).toNat, (intAt fs (2 * k + 2)).toNat⟩ := by
    rw [parsePoints_getElem? _ _ (by rw [List.length_tail]; omega), intAt_tail, intAt_tail]
  have neighbours (k : Nat) (hk : 2 * k + 4 < fs.length) : (intAt fs (2 * k + 1)).toNat < (intAt fs (2 * k + 3)).toNat ∧
      (intAt fs (2 * k + 2)).toNat ≤ (intAt fs (2 * k + 4)).toNat := by
    obtain ⟨hk1, he1⟩ := List.getElem?_eq_some_iff.1 (point k (by omega))
    obtain ⟨hk2, he2⟩ := List.getElem?_eq_some_iff.1 (point (k + 1) (by omega))
    have hpair := List.pairwise_iff_getElem.1 (pointsOrdered_pairwise _ ho) k (k + 1) hk1 hk2 (Nat.lt_succ_self k)
    rw [he1, he2] at hpair
    exact hpair
  have hnonneg : 0 ≤ intAt fs (i + 2) := ((inRange_iff _ _ _).1 hgood).1
  obtain ⟨hi2, hle⟩ | ⟨hi2, h2, hlt⟩ := hfail
  · obtain ⟨k, rfl⟩ : ∃ k, i = 2 * k + 1 := ⟨i / 2, by omega⟩
    have hlevel := (neighbours k (by omega)).1
    rw [show 2 * k + 1 + 2 = 2 * k + 3 by omega] at hle hnonneg
    omega
  · obtain ⟨k, rfl⟩ : ∃ k, i = 2 * k + 2 := ⟨i / 2 - 1, by omega⟩
    have hvolume := (neighbours k (by omega)).2
    rw [show 2 * k + 2 + 2 = 2 * k + 4 by omega] at hlt hnonneg
    omega

/-! ### TARIFF_SET (R75) -/

/-- R75: the check of one field of a TARIFF_SET body. -/
def tariffFieldOk (fs : List Word) (i : Nat) : Bool :=
  if i % 4 = 1 then inRange 0 1439 (intAt fs i) else if i % 4 = 2 then inRange 1 1440 (intAt fs i)
  else if i % 4 = 3 then inRange 1 127 (intAt fs i) else inRange 1 2 (intAt fs i)

theorem tariffFieldOk_block (fs : List Word) (j : Nat) (r : Int × Int)
    (h : [((0 : Int), (1439 : Int)), (1, 1440), (1, 127), (1, 2)][j % 4]? = some r) :
    inRange r.1 r.2 (intAt fs (1 + j)) = tariffFieldOk fs (1 + j) := by
  have hj : j % 4 = 0 ∨ j % 4 = 1 ∨ j % 4 = 2 ∨ j % 4 = 3 := by omega
  unfold tariffFieldOk
  obtain hj | hj | hj | hj := hj
  · obtain rfl := Option.some.inj (hj ▸ h)
    rw [if_pos (by omega)]
  · obtain rfl := Option.some.inj (hj ▸ h)
    rw [if_neg (by omega), if_pos (by omega)]
  · obtain rfl := Option.some.inj (hj ▸ h)
    rw [if_neg (by omega), if_neg (by omega), if_pos (by omega)]
  · obtain rfl := Option.some.inj (hj ▸ h)
    rw [if_neg (by omega), if_neg (by omega), if_neg (by omega)]

theorem tariffCheck_count (fs : List Word) (h : inRange 0 8 (intAt fs 0) = false ∨ (fs.length : Int) ≠ 1 + 4 * intAt fs 0) :
    tariffCheck (4 * fs.length) fs = some (badValue 0) :=
  if_pos (count_unfit 0 8 (intAt fs 0) fs.length 4 (by omega) h)

theorem tariffCheck_field (fs : List Word) (i : Nat) (hn : inRange 0 8 (intAt fs 0) = true) (hl : (fs.length : Int) = 1 + 4 * intAt fs 0)
    (h1 : 1 ≤ i) (hi : i < fs.length) (hbad : tariffFieldOk fs i = false)
    (hgood : ∀ j, 1 ≤ j → j < i → tariffFieldOk fs j = true) : tariffCheck (4 * fs.length) fs = some (badValue i) := by
  obtain ⟨hfit, hlen⟩ := count_fits 0 8 (intAt fs 0) fs.length 4 (by omega) hn hl
  have hfirst := firstBad_repeated fs (intAt fs 0).toNat i [((0 : Int), (1439 : Int)), (1, 1440), (1, 127), (1, 2)] (tariffFieldOk fs)
    (tariffFieldOk_block fs) h1 (hlen ▸ hi) hbad hgood
  unfold tariffCheck
  dsimp only
  rw [if_neg (by rw [hfit]; simp), hfirst]

/-! ### Windows that share a minute (R74, R75) -/

theorem mem_starts (w : Window) (a : Nat) :
    a ∈ w.starts ↔ ∃ d, d < 7 ∧ w.days.getLsbD d = true ∧ (d * 1440 + w.start) % 10080 = a := by
  simp [Window.starts, and_assoc]

/-- R74: a minute is covered from one of the window's starts. -/
theorem covers_iff (w : Window) (m : Nat) : w.covers m = true ↔ ∃ a ∈ w.starts, (m + 10080 - a) % 10080 < w.length := by
  simp only [Window.covers, List.any_eq_true, List.mem_range, Bool.and_eq_true, decide_eq_true_eq, mem_starts]
  constructor
  · rintro ⟨d, hd, hday, hm⟩
    exact ⟨_, ⟨d, hd, hday, rfl⟩, hm⟩
  · rintro ⟨_, ⟨d, hd, hday, rfl⟩, hm⟩
    exact ⟨d, hd, hday, hm⟩

/-- Two occurrences share a minute of the week, which wraps. -/
theorem occurrencesMeet_iff (a k b l : Nat) (ha : a < 10080) (hb : b < 10080) (hk : 1 ≤ k) (hl : 1 ≤ l) :
    occurrencesMeet a k b l = true ↔
      ∃ m, m < 10080 ∧ (m + 10080 - a) % 10080 < k ∧ (m + 10080 - b) % 10080 < l := by
  simp only [occurrencesMeet, Bool.or_eq_true, decide_eq_true_eq]
  constructor
  · rintro (h | h)
    · exact ⟨b, hb, h, by omega⟩
    · exact ⟨a, ha, by omega, h⟩
  · rintro ⟨m, hm, h1, h2⟩
    omega

/-- R75: two windows meet exactly when some minute of the week is covered by both. -/
theorem meets_iff (v w : Window) (hv : 1 ≤ v.length) (hw : 1 ≤ w.length) :
    v.meets w = true ↔ ∃ m, m < 10080 ∧ v.covers m = true ∧ w.covers m = true := by
  have bound (x : Window) (a : Nat) (ha : a ∈ x.starts) : a < 10080 := by
    obtain ⟨d, -, -, rfl⟩ := (mem_starts x a).1 ha
    omega
  simp only [Window.meets, List.any_eq_true, covers_iff]
  constructor
  · rintro ⟨a, ha, b, hb, hmeet⟩
    obtain ⟨m, hm, h1, h2⟩ := (occurrencesMeet_iff a _ b _ (bound v a ha) (bound w b hb) hv hw).1 hmeet
    exact ⟨m, hm, ⟨a, ha, h1⟩, b, hb, h2⟩
  · rintro ⟨m, hm, ⟨a, ha, h1⟩, b, hb, h2⟩
    exact ⟨a, ha, b, hb, (occurrencesMeet_iff a _ b _ (bound v a ha) (bound w b hb) hv hw).2 ⟨m, hm, h1, h2⟩⟩

theorem firstMeeting_eq_none (v : Window) (i : Nat) (ws : List Window) (h : ∀ w ∈ ws, v.meets w = false) :
    firstMeeting v i ws = none := by
  induction ws generalizing i with
  | nil => rfl
  | cons w ws ih =>
    rw [firstMeeting, h w List.mem_cons_self]
    exact ih (i + 1) fun x hx => h x (List.mem_cons_of_mem _ hx)

theorem firstMeeting_eq_some (v w : Window) (i j : Nat) (ws : List Window) (hw : ws[j]? = some w) (hm : v.meets w = true)
    (hno : ∀ (k : Nat) (x : Window), k < j → ws[k]? = some x → v.meets x = false) : firstMeeting v i ws = some (i + j) := by
  induction ws generalizing i j with
  | nil => simp at hw
  | cons x ws ih =>
    cases j with
    | zero =>
      obtain rfl : x = w := by simpa using hw
      exact if_pos hm
    | succ j =>
      rw [firstMeeting, hno 0 x (Nat.succ_pos j) rfl, show i + (j + 1) = i + 1 + j by omega]
      exact ih (i + 1) j hw fun k y hk hy => hno (k + 1) y (Nat.succ_lt_succ hk) hy

/-- R75: the pair found is the first in window order, by its first window and then by its second. -/
theorem sharedMinute_eq_some (ws : List Window) (o i j : Nat) (v w : Window) (hij : i < j) (hv : ws[i]? = some v) (hw : ws[j]? = some w)
    (hm : v.meets w = true)
    (hno : ∀ (k l : Nat) (x y : Window), k < l → (k < i ∨ k = i ∧ l < j) → ws[k]? = some x → ws[l]? = some y → x.meets y = false) :
    sharedMinute o ws = some (o + i, o + j) := by
  induction ws generalizing o i j with
  | nil => simp at hv
  | cons x ws ih =>
    obtain ⟨j, rfl⟩ : ∃ j', j = j' + 1 := ⟨j - 1, by omega⟩
    rw [List.getElem?_cons_succ] at hw
    cases i with
    | zero =>
      obtain rfl : x = v := by simpa using hv
      have hfirst : firstMeeting x (o + 1) ws = some (o + 1 + j) :=
        firstMeeting_eq_some x w (o + 1) j ws hw hm fun k y hk hy =>
          hno 0 (k + 1) x y (Nat.succ_pos k) (.inr ⟨rfl, Nat.succ_lt_succ hk⟩) rfl hy
      rw [sharedMinute, hfirst, show o + (j + 1) = o + 1 + j by omega]
      rfl
    | succ i =>
      have hnone : firstMeeting x (o + 1) ws = none := by
        refine firstMeeting_eq_none x (o + 1) ws fun y hy => ?_
        obtain ⟨l, hl⟩ := List.mem_iff_getElem?.1 hy
        exact hno 0 (l + 1) x y (Nat.succ_pos l) (.inl (Nat.succ_pos i)) rfl hl
      rw [sharedMinute, hnone, show o + (i + 1) = o + 1 + i by omega, show o + (j + 1) = o + 1 + j by omega]
      exact ih (o + 1) i j (Nat.lt_of_succ_lt_succ hij) hv hw fun k l y z hkl hlt hy hz =>
        hno (k + 1) (l + 1) y z (Nat.succ_lt_succ hkl) (by omega) hy hz

/-! ### A TARIFF_SET body of windows in their ranges -/

/-- R74: a window in its ranges. -/
def Window.Fits (w : Window) : Prop := w.start ≤ 1439 ∧ 1 ≤ w.length ∧ w.length ≤ 1440 ∧ w.days ≠ 0 ∧ w.band ≠ .standard

theorem days_between (d : BitVec 7) (h : d ≠ 0) : 1 ≤ d.toNat ∧ d.toNat ≤ 127 := by
  have hne : d.toNat ≠ 0 := fun e => h (BitVec.eq_of_toNat_eq e)
  have := d.isLt
  omega

theorem band_between (b : Band) (h : b ≠ .standard) : 1 ≤ b.code ∧ b.code ≤ 2 := by
  cases b with
  | standard => exact absurd rfl h
  | cheap | peak => decide

theorem days_of_field (d : BitVec 7) : BitVec.ofNat 7 (numField d.toNat).toNat = d := by
  have hlt : d.toNat < 2 ^ 32 := Nat.lt_trans d.isLt (by decide)
  rw [numField, BitVec.toNat_ofNat, Nat.mod_eq_of_lt hlt, BitVec.ofNat_toNat, BitVec.setWidth_eq]

theorem band_of_code (b : Band) (h : b ≠ .standard) : (if (numField b.code).toNat = 1 then Band.cheap else .peak) = b := by
  cases b with
  | standard => exact absurd rfl h
  | cheap | peak => rfl

theorem tariffFields_length (ws : List Window) : (tariffFields ws).length = 1 + 4 * ws.length := by
  rw [tariffFields, List.length_cons, length_flatMap_block _ 4 ws fun _ => rfl, Nat.add_comm]

theorem parseWindows_fields (ws : List Window) (h : ∀ w ∈ ws, w.Fits) : parseWindows (tariffFields ws).tail = ws := by
  show parseWindows (ws.flatMap fun w => [numField w.start, numField w.length, numField w.days.toNat, numField w.band.code]) = ws
  induction ws with
  | nil => rfl
  | cons w ws ih =>
    obtain ⟨hstart, -, hlength, -, hband⟩ := h w List.mem_cons_self
    rw [List.flatMap_cons]
    show (⟨(numField w.start).toInt.toNat, (numField w.length).toInt.toNat, BitVec.ofNat 7 (numField w.days.toNat).toNat,
      if (numField w.band.code).toNat = 1 then .cheap else .peak⟩ : Window) ::
      parseWindows (ws.flatMap fun w => [numField w.start, numField w.length, numField w.days.toNat, numField w.band.code]) = _
    rw [toNat_numField _ (by omega), toNat_numField _ (by omega), days_of_field, band_of_code _ hband,
      ih fun x hx => h x (List.mem_cons_of_mem _ hx)]

theorem windowFields_inRange (w : Window) (h : w.Fits) (j : Nat) (r : Int × Int)
    (hr : [((0 : Int), (1439 : Int)), (1, 1440), (1, 127), (1, 2)][j]? = some r) :
    inRange r.1 r.2 (intAt [numField w.start, numField w.length, numField w.days.toNat, numField w.band.code] j) = true := by
  obtain ⟨hstart, hl1, hl2, hdays, hband⟩ := h
  match j, hr with
  | 0, hr => exact Option.some.inj hr ▸ inRange_between 0 1439 _ ⟨Nat.zero_le _, hstart⟩ (by omega)
  | 1, hr => exact Option.some.inj hr ▸ inRange_between 1 1440 _ ⟨hl1, hl2⟩ (by omega)
  | 2, hr => exact Option.some.inj hr ▸ inRange_between 1 127 _ (days_between _ hdays) (by omega)
  | 3, hr => exact Option.some.inj hr ▸ inRange_between 1 2 _ (band_between _ hband) (by omega)

/-- R75: a body of windows in their ranges is refused for the first pair that shares a minute. -/
theorem tariffCheck_shared (ws : List Window) (i j : Nat) (h8 : ws.length ≤ 8) (h : ∀ w ∈ ws, w.Fits)
    (hshared : sharedMinute 0 ws = some (i, j)) :
    tariffCheck (4 * (tariffFields ws).length) (tariffFields ws) =
      some (.refuse .inconsistent [BitVec.ofNat 8 i, BitVec.ofNat 8 j]) := by
  have hn : intAt (tariffFields ws) 0 = ws.length := toInt_numField _ (by omega)
  obtain ⟨hfit, -⟩ := count_fits 0 8 ws.length (tariffFields ws).length 4 (by omega) ((inRange_iff _ _ _).2 (by omega))
    (by rw [tariffFields_length, Int.natCast_add, Int.natCast_mul]; rfl)
  have hfirst : firstBad (tariffFields ws) 1
      (List.replicate ws.length [((0 : Int), (1439 : Int)), (1, 1440), (1, 127), (1, 2)]).flatten = none :=
    firstBad_blocks _ _ ws [numField ws.length] (fun _ _ => rfl) fun w hw => windowFields_inRange w (h w hw)
  unfold tariffCheck
  dsimp only
  rw [hn, if_neg (by rw [hfit]; simp), Int.toNat_natCast, hfirst, parseWindows_fields ws h, hshared]

end Sys2Proof.Machine
end

section
/-! PROOFS. Every SET request and CLOCK_SET refused whole (R185, R186, R195). -/
namespace Sys2Proof.Machine

section
variable (s : State) (tag : Byte) (fs : List Word)

theorem counted_allows (h : fs ≠ []) : BodyForm.counted.allows (4 * fs.length) = true :=
  decide_eq_true (by have := List.length_pos_iff.2 h; omega)

theorem strapSet_refused (reason : Reason) (detail : List Byte) (hs : s.free) (hc : s.commitIdle) (hne : fs ≠ [])
    (hcheck : strapCheck (4 * fs.length) fs = some (.refuse reason detail)) :
    exec (.strapSet tag fs) s = .next (s.drawOrder.refused tag 0x05 reason.code detail) := by
  refine congrArg Host.Outcome.next (request_refused 0x05 tag fs .counted s.drawOrder reason detail ((drawOrder_free s).2 hs) rfl
    (counted_allows fs hne) (noCommit_of_idle _ _ ((drawOrder_idle s).2 hc)) ?_)
  show strapSet _ _ _ = _
  rw [strapSet, hcheck]

theorem tariffSet_refused (reason : Reason) (detail : List Byte) (hs : s.free) (hc : s.commitIdle) (hne : fs ≠ [])
    (hcheck : tariffCheck (4 * fs.length) fs = some (.refuse reason detail)) :
    exec (.tariffSet tag fs) s = .next (s.drawOrder.refused tag 0x13 reason.code detail) := by
  refine congrArg Host.Outcome.next (request_refused 0x13 tag fs .counted s.drawOrder reason detail ((drawOrder_free s).2 hs) rfl
    (counted_allows fs hne) (noCommit_of_idle _ _ ((drawOrder_idle s).2 hc)) ?_)
  show tariffSet _ _ _ = _
  rw [tariffSet, hcheck]

/-- R75: the first pair of windows that share a minute is named. -/
theorem tariffSet_shared (ws : List Window) (i j : Nat) (v w : Window) (hs : s.free) (hc : s.commitIdle) (h8 : ws.length ≤ 8)
    (hfits : ∀ x ∈ ws, x.Fits) (hij : i < j) (hv : ws[i]? = some v) (hw : ws[j]? = some w)
    (hshared : ∃ m, m < 10080 ∧ v.covers m = true ∧ w.covers m = true)
    (hno : ∀ (k l : Nat) (x y : Window) (m : Nat), k < l → (k < i ∨ k = i ∧ l < j) → ws[k]? = some x → ws[l]? = some y → m < 10080 →
      ¬(x.covers m = true ∧ y.covers m = true)) :
    exec (.tariffSet tag (tariffFields ws)) s =
      .next (s.drawOrder.refused tag 0x13 4 [BitVec.ofNat 8 i, BitVec.ofNat 8 j]) := by
  have long (x : Window) (k : Nat) (hx : ws[k]? = some x) : 1 ≤ x.length := (hfits x (List.mem_of_getElem? hx)).2.1
  have hpair : sharedMinute 0 ws = some (0 + i, 0 + j) :=
    sharedMinute_eq_some ws 0 i j v w hij hv hw ((meets_iff v w (long v i hv) (long w j hw)).2 hshared)
      fun k l x y hkl hlt hx hy => by
        rw [← Bool.not_eq_true, meets_iff x y (long x k hx) (long y l hy)]
        rintro ⟨m, hm, hcovers⟩
        exact hno k l x y m hkl hlt hx hy hm hcovers
  rw [Nat.zero_add, Nat.zero_add] at hpair
  exact tariffSet_refused s tag _ .inconsistent _ hs hc (List.cons_ne_nil _ _) (tariffCheck_shared ws i j h8 hfits hpair)

theorem clockSet_refused (d q : Word) (i : Nat) (hs : s.free) (hi : firstBad [d, q] 0 [(0, 6), (0, 86399)] = some i) :
    exec (.clockSet tag d q) s = .next (s.drawOrder.refused tag 0x11 3 [BitVec.ofNat 8 i]) := by
  refine congrArg Host.Outcome.next (request_refused 0x11 tag [d, q] (.exact 8) s.drawOrder .badValue _ ((drawOrder_free s).2 hs) rfl
    rfl rfl ?_)
  show clockSet _ _ = _
  rw [clockSet, hi]
  rfl

/-- R24: a zero at or above the full count is refused. -/
theorem sensorSet_inconsistent (hperiod : intAt fs 0 = 1 ∨ intAt fs 0 = 2 ∨ intAt fs 0 = 5 ∨ intAt fs 0 = 10)
    (hin : FieldsFit fs sensorRanges) (hfail : intAt fs 4 ≤ intAt fs 3) : sensorSet fs s = (inconsistent, s) := by
  unfold sensorSet
  refine judgeSet_inconsistent _ _ _ s ((sensorBad_of_period fs hperiod).trans (firstBad_of_fieldsFit fs _ hin)) ?_
  exact decide_eq_false (Nat.not_lt.2 (Int.toNat_le_toNat hfail))

theorem sensorSet_badValue (i : Nat) (hbad : sensorBad fs = some i) : sensorSet fs s = (badValue i, s) := by
  unfold sensorSet
  exact judgeSet_bad _ i _ _ s hbad

end

end Sys2Proof.Machine

section
open Sys2Proof Sys2Proof.Machine

/-- Settles O51: by length, by a commit in flight, by the first field out of its range, and by each check beyond the ranges. -/
theorem setRefusals : Obligations.SetRefusals := by
  refine ⟨?groups, ?lengths, ?busy, ?zone, ?sensor, ?strap, ?tariff, ?shared, ?guard, ?heat, ?clock⟩
  case groups =>
    intro g hg s tag fs hs _
    have hset : SetGroup g.1 g.2.1 g.2.2 := by
      simp only [List.mem_cons, List.not_mem_nil, or_false] at hg
      obtain rfl | rfl | rfl | rfl | rfl | rfl | rfl := hg
      · exact setGroup_guard
      · exact setGroup_valve
      · exact setGroup_line
      · exact setGroup_plan
      · exact setGroup_heat
      · exact setGroup_zone
      · exact setGroup_history
    exact ⟨hset.badLength s tag fs hs, hset.busy s tag fs hs, fun i r hl hc hr => hset.badValue s tag fs hs i r hl hc hr⟩
  case lengths =>
    intro s tag hs
    refine ⟨fun fs _ hl => ?_, ?_, ?_⟩
    · exact congrArg _ (request_badLength 0x03 tag fs (.exact 72) s hs rfl (decide_eq_false (by omega)))
    · exact congrArg _ (request_badLength 0x05 tag [] .counted s.drawOrder ((drawOrder_free s).2 hs) rfl rfl)
    · exact congrArg _ (request_badLength 0x13 tag [] .counted s.drawOrder ((drawOrder_free s).2 hs) rfl rfl)
  case busy =>
    intro s tag hs hc
    have hdrawn : s.drawOrder.sst.writing.isSome = true := by rw [drawOrder_sst]; exact hc
    refine ⟨?_, ?_, fun fs hl => ?_, fun fs hne => ⟨?_, ?_⟩⟩
    · exact congrArg _ (request_busy 0x24 tag [] (.exact 0) s hs rfl rfl rfl hc)
    · exact congrArg _ (request_busy 0x27 tag [] (.exact 0) s hs rfl rfl rfl hc)
    · exact congrArg _ (request_busy 0x03 tag fs (.exact 72) s hs rfl (decide_eq_true (by omega)) rfl hc)
    · exact congrArg _ (request_busy 0x05 tag fs .counted s.drawOrder ((drawOrder_free s).2 hs) rfl (counted_allows fs hne) rfl hdrawn)
    · exact congrArg _ (request_busy 0x13 tag fs .counted s.drawOrder ((drawOrder_free s).2 hs) rfl (counted_allows fs hne) rfl hdrawn)
  case zone =>
    intro s tag z c hs hc hoff hle hon hpower hpriority
    exact congrArg _ (request_refused 0x1E tag _ (.exact 24) s .inconsistent [] hs rfl rfl (noCommit_of_idle _ s hc)
      (zoneSet_inconsistent z c s hoff hle hon hpower hpriority))
  case sensor =>
    intro s tag fs hs hc hl ranges period
    have refuses (i : Nat) (hbad : sensorBad fs = some i) :=
      sensorSet_refused s tag fs .badValue _ hs hc hl (sensorSet_badValue s fs i hbad)
    refine ⟨fun hp => refuses 0 (sensorBad_of_no_period fs hp), fun i r hp hr hbad hok => refuses i ?_, fun hp hin hfail => ?_⟩
    · rw [sensorBad_of_period fs hp, ← Nat.zero_add i]
      exact firstBad_eq_some fs 0 i _ r hr (by rw [Nat.zero_add]; exact hbad)
        fun k q hk hq => by rw [Nat.zero_add]; exact hok k q hk hq
    · exact sensorSet_refused s tag fs .inconsistent [] hs hc hl (sensorSet_inconsistent s fs hp hin hfail)
  case strap =>
    intro s tag fs hs hc hne _ ok
    refine ⟨fun hcount => strapSet_refused s tag fs .badValue _ hs hc hne (strapCheck_count fs hcount), fun hn hl => ⟨?_, ?_⟩⟩
    · exact fun i h1 hi hbad hgood => strapSet_refused s tag fs .badValue _ hs hc hne (strapCheck_field fs hn hl i h1 hi hbad hgood)
    · intro hgood i hi hfail
      have ho := points_not_ordered fs (by omega) i hi (hgood (i + 2) (by omega) hi) hfail
      exact strapSet_refused s tag fs .inconsistent [] hs hc hne (strapCheck_order fs hn hl hgood ho)
  case tariff =>
    intro s tag fs hs hc hne _ ok
    refine ⟨fun hcount => tariffSet_refused s tag fs .badValue _ hs hc hne (tariffCheck_count fs hcount), ?_⟩
    exact fun i hn hl h1 hi hbad hgood =>
      tariffSet_refused s tag fs .badValue _ hs hc hne (tariffCheck_field fs i hn hl h1 hi hbad hgood)
  case shared =>
    exact fun s tag ws i j v w hs hc h8 hfits => tariffSet_shared s tag ws i j v w hs hc h8 hfits
  case guard =>
    exact fun s tag fs hs hc hl hin hfail =>
      setGroup_guard.inconsistent s tag fs hs hc hl fun _ u => guardSet_inconsistent fs hin hfail u
  case heat =>
    exact fun s tag fs hs hc hl hin hfail =>
      setGroup_heat.inconsistent s tag fs hs hc hl fun _ u => heatSet_inconsistent fs hin hfail u
  case clock =>
    intro s tag d q hs
    refine ⟨fun hd => clockSet_refused s tag d q 0 hs ?_, fun hd hq => clockSet_refused s tag d q 1 hs ?_⟩
    · exact firstBad_eq_some [d, q] 0 0 _ (0, 6) rfl hd fun k _ hk => absurd hk (Nat.not_lt_zero k)
    · refine firstBad_eq_some [d, q] 0 1 _ (0, 86399) rfl hq fun k r hk hr => ?_
      obtain rfl : k = 0 := by omega
      exact Option.some.inj hr ▸ hd

end
end

section
/-! PROOFS. The tariff calendar: the minutes a window covers (R74), the band of a minute (R78), and the run remaining (R80). -/
namespace Sys2Proof.Machine

/-- R74: a minute of week lies in the occurrence from a start when it is one of the `length` minutes that follow on it, around the week. -/
theorem occurrence_iff (start length m : Nat) (hm : m < 10080) (hl : length ≤ 1440) :
    (m + 10080 - start % 10080) % 10080 < length ↔ ∃ k, k < length ∧ (start + k) % 10080 = m := by
  constructor
  · exact fun h => ⟨_, h, by omega⟩
  · rintro ⟨k, hk, rfl⟩
    omega

theorem covers_iff_occurrence (w : Window) (m : Nat) (hm : m < 10080) (hl : w.length ≤ 1440) :
    w.covers m = true ↔
      ∃ d k, d < 7 ∧ w.days.getLsbD d = true ∧ k < w.length ∧ (d * 1440 + w.start + k) % 10080 = m := by
  rw [covers_iff]
  constructor
  · rintro ⟨a, ha, h⟩
    obtain ⟨d, hd, hday, rfl⟩ := (mem_starts w a).1 ha
    obtain ⟨k, hk, heq⟩ := (occurrence_iff _ _ m hm hl).1 h
    exact ⟨d, k, hd, hday, hk, heq⟩
  · rintro ⟨d, k, hd, hday, hk, heq⟩
    exact ⟨_, (mem_starts w _).2 ⟨d, hd, hday, rfl⟩, (occurrence_iff _ _ m hm hl).2 ⟨k, hk, heq⟩⟩

section
variable (calendar : List Window) (m : Nat)

/-- R78: the band is that of the only window that covers the minute. -/
theorem bandAt_of_covered (w : Window) (hw : w ∈ calendar) (hc : w.covers m = true)
    (honly : ∀ v ∈ calendar, v.covers m = true → v = w) : bandAt calendar m = w.band := by
  unfold bandAt
  cases hfind : calendar.find? fun v => v.covers m with
  | none => exact absurd hc (List.find?_eq_none.1 hfind w hw)
  | some v => rw [honly v (List.mem_of_find?_eq_some hfind) (List.find?_some (p := fun v : Window => v.covers m) hfind)]

theorem bandAt_of_uncovered (h : ∀ v ∈ calendar, v.covers m = false) : bandAt calendar m = .standard := by
  have hfind : (calendar.find? fun v => v.covers m) = none := List.find?_eq_none.2 fun v hv => by rw [h v hv]; exact Bool.false_ne_true
  unfold bandAt
  rw [hfind]

/-- R80: the search for the end of a run stops at the first minute of another band, or when its fuel is spent. -/
theorem runFrom_spec (band : Band) (fuel k : Nat) :
    k ≤ runFrom calendar m band fuel k ∧ runFrom calendar m band fuel k ≤ k + fuel ∧
    (∀ j, k ≤ j → j < runFrom calendar m band fuel k → bandAt calendar ((m + j) % 10080) = band) ∧
    (runFrom calendar m band fuel k < k + fuel → bandAt calendar ((m + runFrom calendar m band fuel k) % 10080) ≠ band) := by
  induction fuel generalizing k with
  | zero => exact ⟨Nat.le_refl k, Nat.le_refl k, fun j h1 h2 => absurd h2 (Nat.not_lt.2 h1), fun h => absurd h (Nat.lt_irrefl k)⟩
  | succ fuel ih =>
    by_cases hband : bandAt calendar ((m + k) % 10080) = band
    · rw [runFrom, if_pos hband]
      obtain ⟨hlow, hhigh, hsame, hend⟩ := ih (k + 1)
      refine ⟨by omega, by omega, fun j h1 h2 => ?_, fun h => hend (by omega)⟩
      obtain rfl | hk : j = k ∨ k + 1 ≤ j := by omega
      · exact hband
      · exact hsame j hk h2
    · rw [runFrom, if_neg hband]
      exact ⟨Nat.le_refl k, by omega, fun j h1 h2 => absurd h2 (Nat.not_lt.2 h1), fun _ => hband⟩

/-- R80: the first minute of a run is counted, since its band is the run's. -/
theorem runRemaining_pos (hm : m < 10080) : 1 ≤ runRemaining calendar m := by
  have hfirst : bandAt calendar ((m + 0) % 10080) = bandAt calendar m := by rw [Nat.add_zero, Nat.mod_eq_of_lt hm]
  rw [runRemaining, runFrom, if_pos hfirst]
  exact (runFrom_spec calendar m _ 10079 1).1

theorem runRemaining_spec (hm : m < 10080) :
    1 ≤ runRemaining calendar m ∧ runRemaining calendar m ≤ 10080 ∧
    (∀ k, k < runRemaining calendar m → bandAt calendar ((m + k) % 10080) = bandAt calendar m) ∧
    (runRemaining calendar m < 10080 → bandAt calendar ((m + runRemaining calendar m) % 10080) ≠ bandAt calendar m) := by
  obtain ⟨-, hhigh, hsame, hend⟩ := runFrom_spec calendar m (bandAt calendar m) 10080 0
  rw [Nat.zero_add] at hhigh hend
  exact ⟨runRemaining_pos calendar m hm, hhigh, fun k hk => hsame k (Nat.zero_le k) hk, hend⟩

end

section
variable (s : State)

theorem evalBand_unset (h : s.tck.time = none) : s.evalBand = .standard := by
  rw [State.evalBand, h]

theorem evalBand_set (u : TimeOfWeek) (h : s.tck.time = some u) : s.evalBand = bandAt s.cfg.calendar u.minute := by
  rw [State.evalBand, h]

theorem runLeft_unset (h : s.tck.time = none) : s.runLeft = none := by
  rw [State.runLeft, h]
  rfl

end

end Sys2Proof.Machine

section
open Sys2Proof Sys2Proof.Machine

/-- Settles O25: a window covers the minutes of its occurrences, one window at most gives the band, and the run ends where the band does. -/
theorem bandRule : Obligations.BandRule := by
  refine ⟨fun w m hm hl => covers_iff_occurrence w m hm hl, fun calendar m w hw hc honly => ?_, fun calendar m h => ?_,
    fun calendar m hm => runRemaining_spec calendar m hm, fun s h => ⟨evalBand_unset s h, runLeft_unset s h⟩⟩
  · exact bandAt_of_covered calendar m w hw hc honly
  · exact bandAt_of_uncovered calendar m h

end
end

section
/-! PROOFS. What the day records rest on (R83, R84, R86): no fill, no move of the valve, no plan and no band change writes the open day
record, the day ring or the day tally. -/
namespace Sys2Proof.Machine

/-- The open day record, the day ring, and the pulses counted since the day opened. -/
structure DayBook where
  openDay : DayRecord
  ring : List ClosedDay
  dayPulses : Nat

def State.dayBook (s : State) : DayBook := ⟨s.fpl.openDay, s.fpl.ring, s.ifm.dayPulses⟩

theorem dayBook_iff (s t : State) : t.dayBook = s.dayBook ↔
    t.fpl.openDay = s.fpl.openDay ∧ t.fpl.ring = s.fpl.ring ∧ t.ifm.dayPulses = s.ifm.dayPulses := by
  simp [State.dayBook]

section
variable (s : State)

@[simp] theorem dayBook_withOfg (x) : (s.withOfg x).dayBook = s.dayBook := rfl
@[simp] theorem dayBook_withIvd (x) : (s.withIvd x).dayBook = s.dayBook := rfl
@[simp] theorem dayBook_withTck (x) : (s.withTck x).dayBook = s.dayBook := rfl
@[simp] theorem dayBook_withFsq (x) : (s.withFsq x).dayBook = s.dayBook := rfl
@[simp] theorem dayBook_withSli (x) : (s.withSli x).dayBook = s.dayBook := rfl
@[simp] theorem dayBook_withFhc (x) : (s.withFhc x).dayBook = s.dayBook := rfl
@[simp] theorem dayBook_withTrc (x) : (s.withTrc x).dayBook = s.dayBook := rfl
@[simp] theorem dayBook_withSvp (x) : (s.withSvp x).dayBook = s.dayBook := rfl
@[simp] theorem dayBook_withSst (x) : (s.withSst x).dayBook = s.dayBook := rfl
@[simp] theorem dayBook_fillTally (n) : (s.withIfm { s.ifm with fillTally := n }).dayBook = s.dayBook := rfl
@[simp] theorem dayBook_plan (p) : (s.withFpl { s.fpl with plan := p }).dayBook = s.dayBook := rfl
@[simp] theorem dayBook_allowance (a) : (s.withFpl { s.fpl with allowance := a }).dayBook = s.dayBook := rfl
@[simp] theorem raise_dayBook (c f) : (s.raise c f).dayBook = s.dayBook := rfl

/-! ### Heating, meter, store -/

@[simp] theorem powerRun_dayBook : (powerRun s).dayBook = s.dayBook := by
  unfold powerRun; split <;> rfl
@[simp] theorem heatingSequence_dayBook : (heatingSequence s).dayBook = s.dayBook := by
  unfold heatingSequence setBoost
  split
  · rfl
  · exact powerRun_dayBook _
@[simp] theorem judgeArm_dayBook : (judgeArm s).dayBook = s.dayBook := by
  unfold judgeArm; dsimp only; (repeat' split) <;> rfl
@[simp] theorem judgeRest_dayBook : (judgeRest s).dayBook = s.dayBook := by
  unfold judgeRest
  split
  · exact powerRun_dayBook _
  · rfl
@[simp] theorem enterSeq_dayBook (q) : (enterSeq q s).dayBook = s.dayBook :=
  handTo_frame State.dayBook _ _ _ fun b _ t => by unfold storeSequence; split <;> simp

/-! ### Valve events (R54) -/

@[simp] theorem valveClose_dayBook : (valveClose s).1.dayBook = s.dayBook := by
  rw [valveClose_writes, dayBook_withSvp, dayBook_withIvd]
@[simp] theorem valveOpen_dayBook : (valveOpen s).2.1.dayBook = s.dayBook := by
  rw [valveOpen_writes, dayBook_withIvd]
@[simp] theorem testReport_dayBook (r) : (testReport r s).dayBook = s.dayBook := by
  unfold testReport; (repeat' split) <;> rfl
@[simp] theorem recordGuardChange_dayBook (o n) : (recordGuardChange o n s).dayBook = s.dayBook := by
  unfold recordGuardChange; split <;> rfl
@[simp] theorem escalate_dayBook (c) : (escalate c s).dayBook = s.dayBook := recordGuardChange_dayBook ..
@[simp] theorem guardValve_dayBook (e) : (guardValve e s).dayBook = s.dayBook := by
  unfold guardValve; dsimp only; (repeat' split) <;> simp

theorem takeValveEvent_dayBook (f : ValveEvent → State → State) (hf : ∀ e t, (f e t).dayBook = t.dayBook) (e b) :
    (takeValveEvent f e b s).dayBook = s.dayBook := by
  unfold takeValveEvent; (repeat' split) <;> simp [hf]

theorem handValveEvents_dayBook (f : ValveEvent → State → State) (hf : ∀ e t, (f e t).dayBook = t.dayBook) (es : List ValveEvent) :
    (handValveEvents f es s).dayBook = s.dayBook := by
  unfold handValveEvents
  induction es generalizing s with
  | nil => rfl
  | cons e es ih =>
    rw [List.foldl_cons, ih]
    exact handTo_frame State.dayBook _ _ _ fun b _ t => takeValveEvent_dayBook t f hf e b

/-! ### The demand table and the close of a record (R103, R121) -/

@[simp] theorem setSeqRow_dayBook (k r) : (setSeqRow k r s).dayBook = s.dayBook := rfl
@[simp] theorem dropRow_dayBook (k) : (dropRow k s).dayBook = s.dayBook := rfl
@[simp] theorem onFill_dayBook (g) : (onFill g s).dayBook = s.dayBook := rfl
@[simp] theorem recordEnd_dayBook (c) : (recordEnd c s).dayBook = s.dayBook := rfl
@[simp] theorem retarget_dayBook : (retarget s).dayBook = s.dayBook := by
  unfold retarget; (repeat' split) <;> rfl
@[simp] theorem plannerFillClose_dayBook (n m) : (plannerFillClose n m s).dayBook = s.dayBook := by
  unfold plannerFillClose; dsimp only; (repeat' split) <;> rfl
@[simp] theorem judgeFailure_dayBook (f) : (judgeFailure f s).dayBook = s.dayBook := by
  unfold judgeFailure countAttempt; dsimp only; (repeat' split) <;> rfl
@[simp] theorem closeRecord_dayBook : (closeRecord s).dayBook = s.dayBook := by
  unfold closeRecord; dsimp only; (repeat' split) <;> simp
@[simp] theorem closingValve_dayBook (e) : (closingValve e s).dayBook = s.dayBook := by
  unfold closingValve; (repeat' split) <;> simp
@[simp] theorem closeValve_dayBook : (closeValve s).dayBook = s.dayBook := by
  unfold closeValve
  dsimp only
  rw [handValveEvents_dayBook _ _ fun e t => closingValve_dayBook t e]
  simp

/-! ### The start and the end of a fill (R111 to R116, R120) -/

@[simp] theorem enterOpening_dayBook : (enterOpening s).dayBook = s.dayBook := by
  unfold enterOpening
  dsimp only
  split
  · rw [handValveEvents_dayBook _ _ fun _ _ => rfl]
    simp
  · simp
@[simp] theorem enterPrepare_dayBook : (enterPrepare s).dayBook = s.dayBook := by
  unfold enterPrepare; dsimp only; (repeat' split) <;> simp
@[simp] theorem startFill_dayBook (k n) : (startFill k n s).dayBook = s.dayBook := enterPrepare_dayBook _
@[simp] theorem startCheck_dayBook : (startCheck s).dayBook = s.dayBook := by
  unfold startCheck; (repeat' split) <;> simp
@[simp] theorem enterClosing_dayBook : (enterClosing s).dayBook = s.dayBook := by
  rw [enterClosing, startCheck_dayBook, closeValve_dayBook]
@[simp] theorem enterReleasing_dayBook : (enterReleasing s).dayBook = s.dayBook := by
  unfold enterReleasing setWish; dsimp only; split <;> simp
@[simp] theorem endFill_dayBook (c) : (endFill c s).dayBook = s.dayBook := by
  unfold endFill; dsimp only; (repeat' split) <;> simp
@[simp] theorem rowsRemoved_dayBook (c) : (rowsRemoved c s).dayBook = s.dayBook := by
  unfold rowsRemoved; split <;> simp
@[simp] theorem nightDemand_dayBook (g p) : (nightDemand g p s).dayBook = s.dayBook := by
  unfold nightDemand raiseRow; split <;> simp
@[simp] theorem topupOver_dayBook (c) : (topupOver c s).dayBook = s.dayBook := by
  unfold topupOver; split <;> simp

/-! ### The planner's taking of a band change and of a minute (R79, R94, R96 to R98) -/

@[simp] theorem discardAllowance_dayBook : (discardAllowance s).dayBook = s.dayBook := by
  unfold discardAllowance; split <;> simp
@[simp] theorem setAllowance_dayBook : (setAllowance s).dayBook = s.dayBook := by
  unfold setAllowance; (repeat' split) <;> rfl
@[simp] theorem cancelStart_dayBook : (cancelStart s).dayBook = s.dayBook := by
  unfold cancelStart; (repeat' split) <;> rfl
@[simp] theorem handDemand_dayBook (p) : (handDemand p s).dayBook = s.dayBook := by
  unfold handDemand; split <;> simp
@[simp] theorem makePlan_dayBook (x c) : (makePlan x c s).dayBook = s.dayBook := by
  unfold makePlan noticePlan; dsimp only; split <;> simp
@[simp] theorem plannerMinute_dayBook : (plannerMinute s).dayBook = s.dayBook := by
  unfold plannerMinute; dsimp only; (repeat' split) <;> simp
@[simp] theorem plannerBand_dayBook (x o n c) : (plannerBand x o n c s).dayBook = s.dayBook := by
  unfold plannerBand; dsimp only; (repeat' split) <;> simp

/-! ### The sequencer's taking of a band change (R105, R124) -/

@[simp] theorem floorBand_dayBook (o n) : (floorBand o n s).dayBook = s.dayBook := by
  unfold floorBand; dsimp only; (repeat' split) <;> rfl
@[simp] theorem topupBand_dayBook (o n) : (topupBand o n s).dayBook = s.dayBook := by
  unfold topupBand; dsimp only; (repeat' split) <;> rfl
@[simp] theorem continueFill_dayBook (o) : (continueFill o s).dayBook = s.dayBook := by
  unfold continueFill; (repeat' split) <;> simp
@[simp] theorem sequenceBand_dayBook (o n) : (sequenceBand o n s).dayBook = s.dayBook := by
  unfold sequenceBand; dsimp only; (repeat' split) <;> simp

/-! ### The clock's hand-overs (R73, R79) -/

theorem takeBand_dayBook (x o n c b) : (takeBand x o n c b s).dayBook = s.dayBook := by
  unfold takeBand; split <;> simp

theorem takeMinute_dayBook (b) : (takeMinute b s).dayBook = s.dayBook := by
  unfold takeMinute; split <;> simp

end

end Sys2Proof.Machine
end

section
/-! PROOFS. The band judged (R78, R79) and the advance of the clock (R71 to R73), with the day that closes at midnight (R83 to R85). -/
namespace Sys2Proof.Machine

/-! ### The band judged (R78, R79) -/

section
variable (s : State)

/-- What stays, field by field, where the clock record alone is known to differ. -/
theorem fields_of_fixed_withTck {s t : State} {k : Tck} (h : t.fixed = (s.withTck k).fixed) :
    t.tck = k ∧ t.lmu = s.lmu ∧ t.cfg = s.cfg ∧ t.sst.image = s.sst.image ∧ t.sst.writing = s.sst.writing := by
  obtain ⟨hlmu, htck, hcfg, himage, -, hwriting, -⟩ := (fixed_iff _ _).1 h
  exact ⟨htck, hlmu, hcfg, himage, hwriting⟩

/-- R79: beside the band, what a judgement of the band brings about leaves level measurement, the clock, the settings and the store. -/
theorem judgeBand_fixed (c : BandCause) : (judgeBand c s).fixed = (s.withTck { s.tck with band := s.evalBand }).fixed := by
  unfold judgeBand judgeBandOn
  dsimp only
  split
  · rename_i h
    rw [h]
    rfl
  · exact handTo_fixed _ _ _ fun b t => takeBand_fixed t _ _ _ _ b

@[simp] theorem judgeBand_dayBook (c : BandCause) : (judgeBand c s).dayBook = s.dayBook := by
  unfold judgeBand judgeBandOn
  dsimp only
  split
  · rfl
  · exact handTo_frame State.dayBook _ _ _ fun b _ t => takeBand_dayBook t _ _ _ _ b

/-- The band of the present minute rests on the clock and the settings. -/
theorem evalBand_of_fixed {s t : State} (h : t.fixed = s.fixed) : t.evalBand = s.evalBand := by
  obtain ⟨-, htck, hcfg, -⟩ := (fixed_iff s t).1 h
  simp only [State.evalBand, htck, hcfg]

/-! ### The midnight (R83 to R85) -/

theorem midnight_dayBook (d : Nat) :
    (midnight d s).dayBook = ⟨⟨some d, .midnight, s.vNow, false, false, false⟩, push 7 s.fpl.ring s.closedDay, 0⟩ := rfl

/-- R84: the draw is the inflow less the rise of the volume, and no less than 0. -/
theorem drawOf_volumes (inflow a b : Nat) : drawOf inflow (some a) (some b) = some ((inflow : Int) - ((b : Int) - (a : Int))).toNat :=
  congrArg some (by omega)

theorem drawOf_absent (inflow : Nat) (a b : Option Nat) (h : a = none ∨ b = none) : drawOf inflow a b = none := by
  obtain rfl | rfl := h
  · rfl
  · cases a <;> rfl

/-! ### The minute boundary (R73) -/

theorem minuteBoundary_fixed (u : TimeOfWeek) :
    (minuteBoundary u s).fixed = (s.withTck { s.tck with band := s.evalBand }).fixed := by
  unfold minuteBoundary
  dsimp only
  rw [handTo_fixed _ _ _ fun b t => takeMinute_fixed t b]
  split
  · rw [judgeBand_fixed, evalBand_of_fixed (midnight_fixed s _)]
    rfl
  · exact judgeBand_fixed s _

theorem minuteBoundary_dayBook (u : TimeOfWeek) :
    (minuteBoundary u s).dayBook = if u.seconds = 0 then (midnight u.day s).dayBook else s.dayBook := by
  unfold minuteBoundary
  dsimp only
  rw [handTo_frame State.dayBook _ _ _ fun b _ t => takeMinute_dayBook t b, judgeBand_dayBook]
  split <;> rfl

/-! ### The advance (R71, R72) -/

theorem tick_within (d q : Nat) (h : q + 1 < 86400) : TimeOfWeek.tick ⟨d, q⟩ = ⟨d, q + 1⟩ := if_pos h

theorem tick_over (d q : Nat) (h : 86400 ≤ q + 1) : TimeOfWeek.tick ⟨d, q⟩ = ⟨(d + 1) % 7, 0⟩ := if_neg (Nat.not_lt.2 h)

/-- R71, R72: one second on, before a minute boundary's work. -/
def State.ticked (s : State) : State :=
  s.withTck { s.tck with uptime := s.tck.uptime + 1, time := s.tck.time.map TimeOfWeek.tick }

theorem ticked_unset (h : s.tck.time = none) : s.ticked = s.withTck { s.tck with uptime := s.tck.uptime + 1 } := by
  simp [State.ticked, h]

theorem advance_unset (h : s.tck.time = none) : advance s = s.ticked := by
  simp [advance, State.ticked, h]

theorem advance_within (u : TimeOfWeek) (h : s.tck.time.map TimeOfWeek.tick = some u) (hu : u.seconds % 60 ≠ 0) :
    advance s = s.ticked := by
  simp [advance, State.ticked, h, hu]

theorem advance_boundary (u : TimeOfWeek) (h : s.tck.time.map TimeOfWeek.tick = some u) (hu : u.seconds % 60 = 0) :
    advance s = minuteBoundary u s.ticked := by
  simp [advance, State.ticked, h, hu]

/-- An advance writes the uptime, the time and the band, and what it hands over leaves level measurement, the settings and the store. -/
theorem advance_fixed : ∃ band, (advance s).fixed = (s.ticked.withTck { s.ticked.tck with band := band }).fixed := by
  cases htime : s.tck.time.map TimeOfWeek.tick with
  | none => exact ⟨s.tck.band, congrArg State.fixed (advance_unset s (Option.map_eq_none_iff.1 htime))⟩
  | some u =>
    by_cases hu : u.seconds % 60 = 0
    · exact ⟨_, (congrArg State.fixed (advance_boundary s u htime hu)).trans (minuteBoundary_fixed _ u)⟩
    · exact ⟨s.tck.band, congrArg State.fixed (advance_within s u htime hu)⟩

theorem advance_keeps : (advance s).tck.uptime = s.tck.uptime + 1 ∧ (advance s).tck.time = s.tck.time.map TimeOfWeek.tick ∧
    (advance s).cfg = s.cfg ∧ (advance s).lmu = s.lmu := by
  obtain ⟨band, h⟩ := advance_fixed s
  obtain ⟨htck, hlmu, hcfg, -⟩ := fields_of_fixed_withTck h
  rw [htck]
  exact ⟨rfl, rfl, hcfg, hlmu⟩

/-- R73: at a minute boundary the band is that of the new minute. -/
theorem advance_band (u : TimeOfWeek) (h : s.tck.time.map TimeOfWeek.tick = some u) (hu : u.seconds % 60 = 0) :
    (advance s).tck.band = bandAt s.cfg.calendar u.minute := by
  obtain ⟨htck, -⟩ := fields_of_fixed_withTck (minuteBoundary_fixed s.ticked u)
  rw [advance_boundary s u h hu, htck]
  exact evalBand_set s.ticked u h

theorem advance_sameDay (u : TimeOfWeek) (h : s.tck.time.map TimeOfWeek.tick = some u) (hu : u.seconds ≠ 0) :
    (advance s).dayBook = s.dayBook := by
  by_cases hm : u.seconds % 60 = 0
  · rw [advance_boundary s u h hm, minuteBoundary_dayBook, if_neg hu]
    rfl
  · rw [advance_within s u h hm]
    rfl

/-- R83 to R85: at a midnight crossing the open day closes into the ring, and the next opens. -/
theorem advance_midnight (u : TimeOfWeek) (h : s.tck.time.map TimeOfWeek.tick = some u) (hu : u.seconds = 0) :
    (advance s).dayBook = ⟨⟨some u.day, .midnight, s.vNow, false, false, false⟩, push 7 s.fpl.ring s.closedDay, 0⟩ := by
  rw [advance_boundary s u h (by rw [hu]), minuteBoundary_dayBook, if_pos hu]
  rfl

end

@[simp] theorem drawOrder_fpl (s : State) : s.drawOrder.fpl = s.fpl := by simp [State.drawOrder]

theorem drawOrder_closedDay (s : State) : s.drawOrder.closedDay = s.closedDay := by
  simp [State.closedDay, State.dayLitres, State.vNow]

end Sys2Proof.Machine

section
open Sys2Proof Sys2Proof.Machine

/-- Settles O23, on the state with its order of hand-overs drawn: by whether the advance makes a minute boundary, and a midnight crossing. -/
theorem clockAdvance : Obligations.ClockAdvance := by
  intro s
  obtain ⟨huptime, htime, hcfg, hlmu⟩ := advance_keeps s.drawOrder
  rw [drawOrder_tck] at huptime htime
  rw [drawOrder_cfg] at hcfg
  rw [drawOrder_lmu] at hlmu
  have ticks {u} (hu : (advance s.drawOrder).tck.time = some u) : s.drawOrder.tck.time.map TimeOfWeek.tick = some u := by
    rw [drawOrder_tck, ← htime, hu]
  refine ⟨advance s.drawOrder, rfl, huptime, hcfg, hlmu, fun hunset => ?unset, fun d q hset hq => ?within, fun d q hset hq => ?nextDay,
    fun u hu hm => ?noBoundary, fun u hu hm => ?boundary, fun u hu h0 => ?sameDay, fun u hu h0 => ?midnight⟩
  case unset =>
    have hdrawn : s.drawOrder.tck.time = none := by rw [drawOrder_tck, hunset]
    rw [advance_unset s.drawOrder hdrawn, ticked_unset s.drawOrder hdrawn, drawOrder_tck]
  case within =>
    rw [htime, hset, Option.map_some, tick_within d q hq]
  case nextDay =>
    rw [htime, hset, Option.map_some, tick_over d q hq]
  case noBoundary =>
    rw [advance_within s.drawOrder u (ticks hu) hm, State.ticked, ticks hu, drawOrder_tck]
  case boundary =>
    rw [advance_band s.drawOrder u (ticks hu) hm, drawOrder_cfg, TimeOfWeek.minute]
  case sameDay =>
    obtain ⟨hopen, hring, -⟩ := (dayBook_iff _ _).1 (advance_sameDay s.drawOrder u (ticks hu) h0)
    rw [drawOrder_fpl] at hopen hring
    exact ⟨hring, hopen⟩
  case midnight =>
    have hbook := advance_midnight s.drawOrder u (ticks hu) h0
    rw [drawOrder_closedDay, drawOrder_fpl] at hbook
    obtain ⟨hopen, hring, hpulses⟩ := DayBook.mk.inj hbook
    refine ⟨hopen.trans ?_, hpulses, s.closedDay, hring, rfl, rfl, rfl, rfl, rfl, rfl, rfl, fun a b ha hb => ?_, fun hnone => ?_⟩
    · rw [State.vNow, drawOrder_lmu]
    · show drawOf s.dayLitres s.fpl.openDay.vStart s.vNow = _
      rw [State.vNow, ha, hb]
      exact drawOf_volumes _ a b
    · have hdraw : drawOf s.dayLitres s.fpl.openDay.vStart s.vNow = none := drawOf_absent _ _ _ hnone
      refine ⟨hdraw, ?_⟩
      show (s.fpl.openDay.noVolume || (drawOf s.dayLitres s.fpl.openDay.vStart s.vNow).isNone) = true
      rw [hdraw]
      exact Bool.or_true _

end
end

section
/-! PROOFS. CLOCK_SET and TARIFF_SET accepted (R75 to R77, R86). -/
namespace Sys2Proof.Machine

/-! ### The bodies (R75, R77) -/

/-- R75: a list of windows of which no two meet. -/
theorem sharedMinute_eq_none (ws : List Window) (o : Nat)
    (h : ∀ (i j : Nat) (v w : Window), i < j → ws[i]? = some v → ws[j]? = some w → v.meets w = false) : sharedMinute o ws = none := by
  induction ws generalizing o with
  | nil => rfl
  | cons x ws ih =>
    have hfirst : firstMeeting x (o + 1) ws = none := by
      refine firstMeeting_eq_none x (o + 1) ws fun y hy => ?_
      obtain ⟨j, hj⟩ := List.mem_iff_getElem?.1 hy
      exact h 0 (j + 1) x y (Nat.succ_pos j) rfl hj
    rw [sharedMinute, hfirst]
    exact ih (o + 1) fun i j v w hij hv hw => h (i + 1) (j + 1) v w (Nat.succ_lt_succ hij) hv hw

/-- R75: a body of at most 8 windows in their ranges, of which no two meet, passes its checks. -/
theorem tariffCheck_passes (ws : List Window) (h8 : ws.length ≤ 8) (h : ∀ w ∈ ws, w.Fits) (hshared : sharedMinute 0 ws = none) :
    tariffCheck (4 * (tariffFields ws).length) (tariffFields ws) = none := by
  have hn : intAt (tariffFields ws) 0 = ws.length := toInt_numField _ (by omega)
  obtain ⟨hfit, -⟩ := count_fits 0 8 ws.length (tariffFields ws).length 4 (by omega) ((inRange_iff _ _ _).2 (by omega))
    (by rw [tariffFields_length, Int.natCast_add, Int.natCast_mul]; rfl)
  have hfirst : firstBad (tariffFields ws) 1
      (List.replicate ws.length [((0 : Int), (1439 : Int)), (1, 1440), (1, 127), (1, 2)]).flatten = none :=
    firstBad_blocks _ _ ws [numField ws.length] (fun _ _ => rfl) fun w hw => windowFields_inRange w (h w hw)
  unfold tariffCheck
  dsimp only
  rw [hn, if_neg (by rw [hfit]; simp), Int.toNat_natCast, hfirst, parseWindows_fields ws h, hshared]

section
variable (s : State)

theorem answered_tck (kind tag : Byte) (body : List Byte) : (s.answered kind tag body).tck = s.tck := rfl

theorem tariffSet_accepts (ws : List Window) (h8 : ws.length ≤ 8) (h : ∀ w ∈ ws, w.Fits) (hshared : sharedMinute 0 ws = none) :
    tariffSet (4 * (tariffFields ws).length) (tariffFields ws) s =
      (acceptEmpty, judgeBand .tariffSet (setWorking { s.cfg with calendar := ws } s)) := by
  rw [tariffSet, tariffCheck_passes ws h8 h hshared, parseWindows_fields ws h]

theorem clockSet_accepts (d q : Nat) (hd : d ≤ 6) (hq : q ≤ 86399) :
    clockSet [numField d, numField q] s = (acceptEmpty, setClock ⟨d, q⟩ s) := by
  have hin : firstBad [numField d, numField q] 0 [(0, 6), (0, 86399)] = none := by
    refine firstBad_of_inRanges _ _ ?_
    simp only [InRanges, and_true]
    exact ⟨inRange_between 0 6 d ⟨Nat.zero_le d, hd⟩ (by omega), inRange_between 0 86399 q ⟨Nat.zero_le q, hq⟩ (by omega)⟩
  have hday : natAt [numField d, numField q] 0 = d := toNat_numField d (by omega)
  have hseconds : natAt [numField d, numField q] 1 = q := toNat_numField q (by omega)
  rw [clockSet, hin, hday, hseconds]

/-! ### What the owners bring about (R76, R77, R86) -/

theorem setClock_fixed (u : TimeOfWeek) : (setClock u s).fixed =
    (s.withTck { s.tck with time := some u, band := bandAt s.cfg.calendar u.minute }).fixed :=
  judgeBand_fixed (clockAdjusted u.day (s.withTck { s.tck with time := some u })) .clockSet

/-- R86: the open day takes the day set and is flagged ADJUSTED; the ring and the day tally stay. -/
theorem setClock_dayBook (u : TimeOfWeek) : (setClock u s).dayBook =
    ⟨{ s.fpl.openDay with day := some u.day, adjusted := true }, s.fpl.ring, s.ifm.dayPulses⟩ :=
  judgeBand_dayBook (clockAdjusted u.day (s.withTck { s.tck with time := some u })) .clockSet

variable (tag : Byte)

theorem clockSet_effect (u : TimeOfWeek) : ∀ t, t = (setClock u s).answered 0x91 tag [] →
    t.replied 0x91 tag [] ∧ t.tck.time = some u ∧ t.tck.uptime = s.tck.uptime ∧ t.tck.band = bandAt s.cfg.calendar u.minute ∧
    t.fpl.openDay = { s.fpl.openDay with day := some u.day, adjusted := true } ∧ t.fpl.ring = s.fpl.ring ∧
    t.cfg = s.cfg ∧ t.sst.image = s.sst.image ∧ t.sst.writing = s.sst.writing ∧ t.lmu = s.lmu := by
  rintro t rfl
  obtain ⟨htck, hlmu, hcfg, himage, hwriting⟩ := fields_of_fixed_withTck (setClock_fixed s u)
  obtain ⟨hopen, hring, -⟩ := DayBook.mk.inj (setClock_dayBook s u)
  refine ⟨answered_replied .., ?_, ?_, ?_, hopen, hring, hcfg, himage, hwriting, hlmu⟩
  all_goals simp only [answered_tck, htck]

/-- R76: the calendar is replaced, and the band judged under it. -/
theorem tariffSet_effect (ws : List Window) : ∀ t,
    t = (judgeBand .tariffSet (setWorking { s.cfg with calendar := ws } s)).answered 0x93 tag [] →
    t.replied 0x93 tag [] ∧ t.cfg = { s.cfg with calendar := ws } ∧ t.tck.time = s.tck.time ∧ t.tck.uptime = s.tck.uptime ∧
    (∀ u, s.tck.time = some u → t.tck.band = bandAt ws u.minute) ∧ (s.tck.time = none → t.tck.band = .standard) ∧
    t.sst.image = s.sst.image ∧ t.lmu = s.lmu := by
  rintro t rfl
  obtain ⟨htck, hlmu, hcfg, himage, -⟩ :=
    fields_of_fixed_withTck (judgeBand_fixed (setWorking { s.cfg with calendar := ws } s) .tariffSet)
  rw [answered_tck, htck]
  exact ⟨answered_replied .., hcfg, rfl, rfl, fun u hu => evalBand_set _ u hu, fun hu => evalBand_unset _ hu, himage, hlmu⟩

/-! ### The requests served (R184, R185) -/

theorem clockSet_accepted (d q : Nat) (hs : s.free) (hd : d ≤ 6) (hq : q ≤ 86399) :
    request 0x11 tag [numField d, numField q] s = (setClock ⟨d, q⟩ s).answered 0x91 tag [] :=
  request_accepted 0x11 tag _ (.exact 8) s _ hs rfl rfl rfl (clockSet_accepts s d q hd hq)

theorem tariffSet_accepted (ws : List Window) (hs : s.free) (hc : s.commitIdle) (h8 : ws.length ≤ 8)
    (h : ∀ w ∈ ws, w.Fits) (hshared : sharedMinute 0 ws = none) :
    request 0x13 tag (tariffFields ws) s =
      (judgeBand .tariffSet (setWorking { s.cfg with calendar := ws } s)).answered 0x93 tag [] :=
  request_accepted 0x13 tag _ .counted s _ hs rfl (counted_allows _ (List.cons_ne_nil _ _)) (noCommit_of_idle _ _ hc)
    (tariffSet_accepts s ws h8 h hshared)

end

end Sys2Proof.Machine

section
open Sys2Proof Sys2Proof.Machine

/-- Settles O24: each body passes its checks; then what the owner brings about, on the state with its order of hand-overs drawn. -/
theorem clockAndTariffSet : Obligations.ClockAndTariffSet := by
  refine ⟨fun s tag d q hs hd hq => ?clock, fun s tag ws hs hc h8 hfits happart => ?tariff⟩
  case clock =>
    have hrequest := clockSet_accepted s.drawOrder tag d q ((drawOrder_free s).2 hs) hd hq
    have heffect := clockSet_effect s.drawOrder tag ⟨d, q⟩ _ hrequest
    simp only [drawOrder_cfg, drawOrder_tck, drawOrder_fpl, drawOrder_sst, drawOrder_lmu] at heffect
    exact ⟨_, rfl, heffect⟩
  case tariff =>
    have hlong (k : Nat) (w : Window) (hw : ws[k]? = some w) : 1 ≤ w.length := (hfits w (List.mem_of_getElem? hw)).2.1
    have hshared : sharedMinute 0 ws = none := sharedMinute_eq_none ws 0 fun i j v w hij hv hw => by
      rw [← Bool.not_eq_true, meets_iff v w (hlong i v hv) (hlong j w hw)]
      rintro ⟨m, hm, hcovers⟩
      exact happart i j v w m hij hv hw hm hcovers
    have hrequest := tariffSet_accepted s.drawOrder tag ws ((drawOrder_free s).2 hs) ((drawOrder_idle s).2 hc) h8 hfits hshared
    have heffect := tariffSet_effect s.drawOrder tag ws _ hrequest
    simp only [drawOrder_cfg, drawOrder_tck, drawOrder_sst, drawOrder_lmu] at heffect
    exact ⟨_, rfl, heffect⟩

end
end

section
/-! PROOFS. What a fill and a move of the valve leave of the Fill Planner's record: everything but the learned rate and the stall mark (R99,
R100). The plan and the top-up allowance are therefore written by the Fill Planner's own operations alone. -/
namespace Sys2Proof.Machine

/-- The Fill Planner's record without what a fill writes into it. -/
def Fpl.exceptRate (p : Fpl) : Fpl := { p with learned := none, stallMark := false }

/-- What two records that differ in the learned rate and the stall mark agree in. -/
theorem exceptRate_fields {p q : Fpl} (h : p.exceptRate = q.exceptRate) :
    p.openDay = q.openDay ∧ p.ring = q.ring ∧ p.plan = q.plan ∧ p.allowance = q.allowance := by
  simpa [Fpl.exceptRate] using h

section
variable (s : State)

/-! ### Heating, meter, store -/

@[simp] theorem powerRun_fpl : (powerRun s).fpl = s.fpl := by
  obtain ⟨zones, budget, h⟩ := powerRun_writes s
  rw [h, State.withFhc_fpl]
@[simp] theorem heatingSequence_fpl : (heatingSequence s).fpl = s.fpl := by
  unfold heatingSequence setBoost
  split
  · rfl
  · exact powerRun_fpl _
@[simp] theorem judgeArm_fpl : (judgeArm s).fpl = s.fpl := by
  unfold judgeArm; dsimp only; (repeat' split) <;> rfl
@[simp] theorem judgeRest_fpl : (judgeRest s).fpl = s.fpl := by
  unfold judgeRest
  split
  · exact powerRun_fpl _
  · rfl
@[simp] theorem enterSeq_fpl (q) : (enterSeq q s).fpl = s.fpl :=
  handTo_frame State.fpl _ _ _ fun b _ t => by unfold storeSequence; split <;> simp

/-! ### Valve events (R54) -/

@[simp] theorem valveClose_fpl : (valveClose s).1.fpl = s.fpl := by
  rw [valveClose_writes, State.withSvp_fpl, State.withIvd_fpl]
@[simp] theorem valveOpen_fpl : (valveOpen s).2.1.fpl = s.fpl := by
  rw [valveOpen_writes, State.withIvd_fpl]
@[simp] theorem testReport_fpl (r) : (testReport r s).fpl = s.fpl := by
  unfold testReport; (repeat' split) <;> rfl
@[simp] theorem recordGuardChange_fpl (o n) : (recordGuardChange o n s).fpl = s.fpl := by
  unfold recordGuardChange; split <;> rfl
@[simp] theorem escalate_fpl (c) : (escalate c s).fpl = s.fpl := recordGuardChange_fpl ..
@[simp] theorem guardValve_fpl (e) : (guardValve e s).fpl = s.fpl := by
  unfold guardValve; dsimp only; (repeat' split) <;> simp

/-- R54: of the receivers of a valve event only the Fill Sequencer can bring about a write to the Fill Planner's record. -/
theorem handValveEvents_exceptRate (f : ValveEvent → State → State) (hf : ∀ e t, (f e t).fpl.exceptRate = t.fpl.exceptRate)
    (es : List ValveEvent) : (handValveEvents f es s).fpl.exceptRate = s.fpl.exceptRate := by
  unfold handValveEvents
  induction es generalizing s with
  | nil => rfl
  | cons e es ih =>
    rw [List.foldl_cons, ih]
    exact handTo_frame (fun t => t.fpl.exceptRate) _ _ _ fun b _ t => by
      unfold takeValveEvent; (repeat' split) <;> simp [hf]

/-! ### The close of a record (R100, R121) -/

@[simp] theorem dropRow_fpl (k) : (dropRow k s).fpl = s.fpl := rfl
@[simp] theorem onFill_fpl (g) : (onFill g s).fpl = s.fpl := rfl
@[simp] theorem recordEnd_fpl (c) : (recordEnd c s).fpl = s.fpl := rfl
@[simp] theorem retarget_fpl : (retarget s).fpl = s.fpl := by
  unfold retarget; (repeat' split) <;> rfl
@[simp] theorem judgeFailure_fpl (f) : (judgeFailure f s).fpl = s.fpl := by
  unfold judgeFailure countAttempt; dsimp only; (repeat' split) <;> rfl
@[simp] theorem plannerFillClose_exceptRate (n m) : (plannerFillClose n m s).fpl.exceptRate = s.fpl.exceptRate := by
  unfold plannerFillClose; dsimp only; (repeat' split) <;> rfl
@[simp] theorem closeRecord_exceptRate : (closeRecord s).fpl.exceptRate = s.fpl.exceptRate := by
  unfold closeRecord; dsimp only; (repeat' split) <;> simp
@[simp] theorem closingValve_exceptRate (e) : (closingValve e s).fpl.exceptRate = s.fpl.exceptRate := by
  unfold closingValve; (repeat' split) <;> simp
@[simp] theorem closeValve_exceptRate : (closeValve s).fpl.exceptRate = s.fpl.exceptRate := by
  unfold closeValve
  dsimp only
  rw [handValveEvents_exceptRate _ _ fun e t => closingValve_exceptRate t e]
  simp

/-! ### The start and the end of a fill (R99, R111 to R116, R120) -/

@[simp] theorem enterOpening_exceptRate : (enterOpening s).fpl.exceptRate = s.fpl.exceptRate := by
  unfold enterOpening
  dsimp only
  split
  · rw [handValveEvents_exceptRate _ _ fun _ _ => rfl]
    simp
  · simp
@[simp] theorem enterPrepare_exceptRate : (enterPrepare s).fpl.exceptRate = s.fpl.exceptRate := by
  unfold enterPrepare; dsimp only; (repeat' split) <;> simp
@[simp] theorem startFill_exceptRate (k n) : (startFill k n s).fpl.exceptRate = s.fpl.exceptRate := enterPrepare_exceptRate _
@[simp] theorem startCheck_exceptRate : (startCheck s).fpl.exceptRate = s.fpl.exceptRate := by
  unfold startCheck; (repeat' split) <;> simp
@[simp] theorem enterClosing_exceptRate : (enterClosing s).fpl.exceptRate = s.fpl.exceptRate := by
  rw [enterClosing, startCheck_exceptRate, closeValve_exceptRate]
@[simp] theorem enterReleasing_exceptRate : (enterReleasing s).fpl.exceptRate = s.fpl.exceptRate := by
  unfold enterReleasing setWish; dsimp only; split <;> simp
@[simp] theorem endFill_exceptRate (c) : (endFill c s).fpl.exceptRate = s.fpl.exceptRate := by
  unfold endFill; dsimp only; (repeat' split) <;> simp
@[simp] theorem topupOver_exceptRate (c) : (topupOver c s).fpl.exceptRate = s.fpl.exceptRate := by
  unfold topupOver rowsRemoved; (repeat' split) <;> simp

/-! ### The sequencer's taking of a band change (R105, R124) -/

@[simp] theorem floorBand_fpl (o n) : (floorBand o n s).fpl = s.fpl := by
  unfold floorBand; dsimp only; (repeat' split) <;> rfl
@[simp] theorem topupBand_fpl (o n) : (topupBand o n s).fpl = s.fpl := by
  unfold topupBand; dsimp only; (repeat' split) <;> rfl
@[simp] theorem continueFill_exceptRate (o) : (continueFill o s).fpl.exceptRate = s.fpl.exceptRate := by
  unfold continueFill; (repeat' split) <;> simp
@[simp] theorem sequenceBand_exceptRate (o n) : (sequenceBand o n s).fpl.exceptRate = s.fpl.exceptRate := by
  unfold sequenceBand; dsimp only; (repeat' split) <;> simp

end

end Sys2Proof.Machine
end

section
/-! PROOFS. The forecast (R88), the figures of a plan with sight (R90, R91, R93, R94), and the plan without sight made at a change into CHEAP
(R79, R89, R98). -/
namespace Sys2Proof.Machine

/-! ### The forecast (R88) -/

theorem usable_eq (x : ClosedDay) :
    x.usable = (!x.opening.partialDay && !x.opening.adjusted && !x.opening.noVolume) := by
  rw [ClosedDay.usable, Bool.not_or, Bool.not_or]

/-! ### A plan with sight (R90 to R94) -/

theorem volumeAt_of_table {table : List StrapPoint} (h : table ≠ []) (level : Nat) :
    volumeAt table level = some ((volumeAt table level).getD 0) := by
  cases table with
  | nil => exact absurd rfl h
  | cons p t => rfl

section
variable (s : State) (x : SampleRecord) (cause : BandCause)

theorem planVolume_of_sample (v : Nat) (h : x.planningVolume = some v) : s.planVolume x = v := by
  rw [State.planVolume, h]
  rfl

/-- R91: the target is the wanted volume, but no more than the ceiling volume. -/
theorem planFigures_vTarget :
    (s.planFigures x).vTarget = min (s.planFigures x).vWant (s.planFigures x).vCeil := rfl

/-- R91: the need is what the target lies above the present volume, and 0 where it does not. -/
theorem planFigures_need :
    (s.planFigures x).need = (((s.planFigures x).vTarget : Int) - ((s.planFigures x).vNow : Int)).toNat :=
  (Int.toNat_sub _ _).symm

/-- R91: what is planned is the need, but no more than the capacity of the run. -/
theorem planFigures_planned :
    (s.planFigures x).planned = min (s.planFigures x).need (s.planFigures x).capacity := rfl

theorem planFigures_shortfall :
    (s.planFigures x).shortfall = (s.planFigures x).need - (s.planFigures x).planned := rfl

/-- What is planned fits below the ceiling volume. -/
theorem planFigures_planned_le_room :
    (s.planFigures x).planned ≤ (s.planFigures x).vCeil - (s.planFigures x).vNow := by
  have hneed := planFigures_need s x
  have htarget := planFigures_vTarget s x
  have hplanned := planFigures_planned s x
  omega

/-- R93: a plan that plans nothing asks for no start. -/
theorem firstStart_of_nothing (p : Plan) (f : PlanFigures) (h : f.planned = 0) : p.firstStart f = .notNeeded := if_pos h

/-- R93: an EARLY start is raised as the plan is made. -/
theorem firstStart_of_early (p : Plan) (f : PlanFigures) (h : 0 < f.planned) (hearly : p.planStart = .early) :
    p.firstStart f = .raised := by
  rw [Plan.firstStart, if_neg (Nat.ne_of_gt h), if_pos (.inl hearly)]

/-- R89 to R94: a plan with a table that looks at a record with sight passes step 3, with the flag of the ceiling and the start state of its
figures. -/
theorem newPlan_of_sight (hsight : x.active.isSome = true) (htable : s.cfg.strap ≠ []) :
    (s.newPlan x cause).figures = some (s.planFigures x) ∧
    ((s.newPlan x cause).ceilingLimited = true ↔ (s.planFigures x).vCeil < (s.planFigures x).vWant) ∧
    ((s.planFigures x).planned = 0 → (s.newPlan x cause).startState = .notNeeded) ∧
    (0 < (s.planFigures x).planned → s.cfg.plan.planStart = .early → (s.newPlan x cause).startState = .raised) := by
  have hseen : ¬x.active.isNone = true := by rw [← Option.not_isSome, hsight]; decide
  have hfilled : ¬s.cfg.strap.isEmpty = true := by simpa using htable
  unfold State.newPlan
  dsimp only
  rw [if_neg hseen, if_neg hfilled]
  exact ⟨rfl, decide_eq_true_iff, firstStart_of_nothing _ _, fun hsome hearly => firstStart_of_early _ _ hsome hearly⟩

/-! ### A plan without sight (R89) -/

/-- R89: the plan that ends at step 3 for want of sight. -/
def State.sightlessPlan (s : State) (cause : BandCause) : Plan :=
  { uptime := s.now, time := s.tck.time, cause := cause, noSight := true, planStart := s.cfg.plan.planStart }

theorem newPlan_sightless (hblind : x.active = none) : s.newPlan x cause = s.sightlessPlan cause := by
  rw [State.newPlan, hblind]
  rfl

/-- The plan without sight rests on the clock and the settings. -/
theorem sightlessPlan_of_fixed {s t : State} (h : t.fixed = s.fixed) : t.sightlessPlan cause = s.sightlessPlan cause := by
  obtain ⟨-, htck, hcfg, -⟩ := (fixed_iff s t).1 h
  rw [State.sightlessPlan, State.now, htck, hcfg]
  rfl

/-- R98: after a discard there is no allowance. -/
theorem discardAllowance_allowance : (discardAllowance s).fpl.allowance = none := by
  unfold discardAllowance
  split
  · assumption
  · obtain ⟨-, -, -, hallowance⟩ := exceptRate_fields
      (topupOver_exceptRate ((s.withFpl { s.fpl with allowance := none }).raise .plan [5, numField _]) .windowEnd)
    exact hallowance

/-- The Fill Planner holds this plan, and no allowance. -/
def State.holdsPlan (s : State) (p : Plan) : Prop := s.fpl.plan = some p ∧ s.fpl.allowance = none

theorem holdsPlan_of_exceptRate {s t : State} {p : Plan} (h : t.fpl.exceptRate = s.fpl.exceptRate) (hs : s.holdsPlan p) :
    t.holdsPlan p := by
  obtain ⟨-, -, hplan, hallowance⟩ := exceptRate_fields h
  exact ⟨hplan.trans hs.1, hallowance.trans hs.2⟩

/-- R89, R98: a plan made without sight is held, hands over no demand, and leaves no allowance. -/
theorem makePlan_sightless (hblind : x.active = none) : (makePlan x cause s).holdsPlan (s.sightlessPlan cause) := by
  have hplan : (discardAllowance s).newPlan x cause = s.sightlessPlan cause :=
    (newPlan_sightless _ x cause hblind).trans (sightlessPlan_of_fixed cause (discardAllowance_fixed s))
  unfold makePlan
  dsimp only
  rw [hplan, if_neg (by simp [State.sightlessPlan])]
  exact ⟨rfl, discardAllowance_allowance s⟩

/-- R79, R89: the Fill Planner's taking of a change into CHEAP without sight. -/
theorem takeBand_sightless (hblind : x.active = none) (old : Band) (hold : old ≠ .cheap) :
    (takeBand x old .cheap cause .fpl s).holdsPlan (s.sightlessPlan cause) := by
  rw [takeBand, plannerBand, if_neg hold]
  exact makePlan_sightless s x cause hblind

/-- R79, R89: after a change into CHEAP taken without sight the Fill Planner holds the plan without sight, in whatever order the receivers
take the change. -/
theorem judgeBand_sightless (hblind : s.lmu.sample.active = none) (hold : s.tck.band ≠ .cheap) (hnew : s.evalBand = .cheap) :
    (judgeBand cause s).holdsPlan (s.sightlessPlan cause) := by
  have makes (t : State) (ht : t.fixed = (s.withTck { s.tck with band := .cheap }).fixed) :
      (takeBand s.lmu.sample s.tck.band .cheap cause .fpl t).holdsPlan (s.sightlessPlan cause) := by
    have hplan : t.sightlessPlan cause = s.sightlessPlan cause :=
      sightlessPlan_of_fixed (s := s.withTck { s.tck with band := .cheap }) cause ht
    rw [← hplan]
    exact takeBand_sightless t _ cause hblind _ hold
  unfold judgeBand judgeBandOn
  dsimp only
  rw [hnew, if_neg (Ne.symm hold)]
  refine handTo_reaches (fun t => t.fixed = (s.withTck { s.tck with band := .cheap }).fixed)
    (fun t => t.holdsPlan (s.sightlessPlan cause)) _ _ _ .fpl (by decide) rfl
    (fun b _ t ht => (takeBand_fixed t _ _ _ _ b).trans ht) makes fun b hb t ht hheld => ?_
  obtain rfl | rfl | rfl : b = .fpl ∨ b = .fsq ∨ b = .fhc := by simpa using hb
  · exact makes t ht
  · exact holdsPlan_of_exceptRate (sequenceBand_exceptRate t _ _) hheld
  · exact holdsPlan_of_exceptRate (congrArg Fpl.exceptRate (powerRun_fpl t)) hheld

/-- R77, R89: a CLOCK_SET into a minute of CHEAP, from another band and without sight. -/
theorem setClock_sightless (u : TimeOfWeek) (hblind : s.lmu.sample.active = none) (hold : s.tck.band ≠ .cheap)
    (hnew : bandAt s.cfg.calendar u.minute = .cheap) :
    (setClock u s).holdsPlan
      { uptime := s.now, time := some u, cause := .clockSet, noSight := true, planStart := s.cfg.plan.planStart } :=
  judgeBand_sightless (clockAdjusted u.day (s.withTck { s.tck with time := some u })) .clockSet hblind hold hnew

end

end Sys2Proof.Machine

section
open Sys2Proof Sys2Proof.Machine

/-- Settles O26: the forecast by the rule of a usable day, the figures one by one, and the plan without sight through the band judged at an
accepted CLOCK_SET, on the state with its order of hand-overs drawn. -/
theorem forecastAndPlan : Obligations.ForecastAndPlan := by
  refine ⟨fun c ring => ?forecast, fun s x cause vNow vCeil w hsight htable hvNow hvCeil hw => ?figures,
    fun s tag d q hs hd hq hblind hold hnew => ?sightless, fun p s hnone => ?notice⟩
  case forecast =>
    rw [forecast, funext usable_eq]
    rfl
  case figures =>
    obtain ⟨hfigures, hlimited, hnothing, hearly⟩ := newPlan_of_sight s x cause hsight htable
    have hplanned := planFigures_planned s x
    have hshortfall := planFigures_shortfall s x
    exact ⟨s.planFigures x, hfigures, planVolume_of_sample s x vNow hvNow, volumeAt_of_table htable _,
      congrArg (·.getD 0) hvCeil, congrArg (·.getD 0) hw, rfl, rfl, rfl, planFigures_vTarget s x, hlimited, rfl,
      planFigures_need s x, rfl, fun henough => by omega, fun hshort => by omega, rfl, Nat.min_le_right _ _,
      planFigures_planned_le_room s x, hnothing, hearly⟩
  case sightless =>
    obtain ⟨hplan, hallowance⟩ := setClock_sightless s.drawOrder ⟨d, q⟩ (by rwa [drawOrder_lmu]) (by rwa [drawOrder_tck])
      (by rwa [drawOrder_cfg])
    rw [drawOrder_now, drawOrder_cfg] at hplan
    refine ⟨(setClock ⟨d, q⟩ s.drawOrder).answered 0x91 tag [], ?_, hallowance, hplan⟩
    exact congrArg Host.Outcome.next (clockSet_accepted s.drawOrder tag d q ((drawOrder_free s).2 hs) hd hq)
  case notice =>
    rw [noticePlan, hnone]
    rfl

end
end

section
/-! PROOFS. Telemetry Recorder: what becomes of a history entry (R170 to R172, R174, R176). -/
namespace Sys2Proof.Machine

section
variable (c : HistorySettings) (collect : Timer) (e : Entry) (r : Trc)

/-! ### The queue and the collect timer at a join and at a drop -/

@[simp] theorem join_queue : (r.join collect e).queue = r.queue ++ [{ e with sequence := r.nextSequence }] := rfl

/-- R176: the collect timer is loaded at a join that finds the queue empty. -/
@[simp] theorem join_collectTimer :
    (r.join collect e).collectTimer = if r.queue = [] then collect else r.collectTimer := by
  simp only [Trc.join, List.isEmpty_iff]

@[simp] theorem dropOldest_queue (n : Nat) : (r.dropOldest n).queue = r.queue.drop n := rfl
@[simp] theorem dropOldest_collectTimer (n : Nat) : (r.dropOldest n).collectTimer = r.collectTimer := rfl

/-! ### The cells of R172's table -/

theorem place_off (hmode : c.mode = .off) : r.place c collect e = (false, r) := by
  rw [Trc.place, hmode]

theorem place_idleRoll_armed (hmode : c.mode = .idleRoll) (harmed : r.trigger = .armed) :
    r.place c collect e = (false, r) := by
  rw [Trc.place, hmode, harmed]

theorem place_fill_full (hmode : c.mode = .fill) (hfull : 128 ≤ r.queue.length) :
    r.place c collect e = (false, r.countOverrun 1) := by
  rw [Trc.place, hmode]
  exact if_pos (decide_eq_true hfull)

theorem place_rollFreeze_frozen (hmode : c.mode = .rollFreeze) (hfrozen : r.trigger = .frozen) :
    r.place c collect e = (false, r.countOverrun 1) := by
  rw [Trc.place, hmode, hfrozen]

/-- R172: the cells in which an entry joins a queue that has room: FILL, ROLL, and a triggered queue of the two other modes. -/
def Trc.takes (c : HistorySettings) (r : Trc) : Prop :=
  c.mode = .fill ∨ c.mode = .roll ∨ (c.mode = .idleRoll ∧ r.trigger = .triggered) ∨
    (c.mode = .rollFreeze ∧ r.trigger = .triggered)

/-- R172: with room the entry joins, and the join that fills a triggered queue of ROLL_FREEZE freezes it. -/
theorem place_of_room (htakes : r.takes c) (hroom : r.queue.length < 128) :
    r.place c collect e = (true, { r.join collect e with
      trigger := if c.mode = .rollFreeze ∧ r.queue.length = 127 then .frozen else r.trigger }) := by
  have hnotFull : decide (128 ≤ r.queue.length) = false := decide_eq_false (by omega)
  rw [Trc.place, hnotFull]
  obtain hmode | hmode | ⟨hmode, htriggered⟩ | ⟨hmode, htriggered⟩ := htakes
  · rw [hmode]
    rfl
  · rw [hmode]
    rfl
  · rw [hmode, htriggered]
    exact congrArg (fun t => (true, { r.join collect e with trigger := t })) htriggered
  · have hlast : (r.join collect e).queue.length = 128 ↔ r.queue.length = 127 := by
      rw [join_queue, List.length_append, List.length_singleton]
      omega
    simp only [hmode, htriggered, hlast, Bool.false_eq_true, if_false, true_and, Prod.mk.injEq]
    split
    · rfl
    · exact congrArg (fun t => { r.join collect e with trigger := t }) htriggered

/-- R172: ROLL, and IDLE_ROLL once triggered, make room in a full queue by dropping its oldest entry. -/
theorem place_of_full_rolling (hrolls : c.mode = .roll ∨ (c.mode = .idleRoll ∧ r.trigger = .triggered))
    (hfull : r.queue.length = 128) : r.place c collect e = (true, (r.dropOldest 1).join collect e) := by
  have hfull' : decide (128 ≤ r.queue.length) = true := decide_eq_true (Nat.le_of_eq hfull.symm)
  rw [Trc.place, hfull']
  obtain hmode | ⟨hmode, htriggered⟩ := hrolls
  · rw [hmode]
    rfl
  · rw [hmode, htriggered]
    rfl

/-- R172: an armed queue of ROLL_FREEZE is first cut to the newest `pre - 1` entries. -/
theorem place_rollFreeze_armed (hmode : c.mode = .rollFreeze) (harmed : r.trigger = .armed) :
    r.place c collect e = (true, (r.dropOldest (r.queue.length - (c.pre - 1))).join collect e) := by
  rw [Trc.place, hmode, harmed]

end

end Sys2Proof.Machine

section
open Sys2Proof Sys2Proof.Machine

/-- Settles O40, cell by cell of R172's table; where the oldest entries are dropped, by how many entries stay. -/
theorem recorderPlaces : Obligations.RecorderPlaces := by
  intro c collect e r hpre joined
  refine ⟨place_off c collect e r, place_idleRoll_armed c collect e r, place_fill_full c collect e r,
    place_rollFreeze_frozen c collect e r, fun htakes hroom => ?room, fun hrolls hfull => ?rolling,
    fun hmode harmed => ?armed⟩
  case room =>
    rw [place_of_room c collect e r htakes hroom]
    exact ⟨rfl, rfl, rfl, rfl, join_collectTimer collect e r, rfl⟩
  case rolling =>
    have hstays : (r.queue.drop 1).length = 127 := by rw [List.length_drop, hfull]
    have hnonempty : r.queue.drop 1 ≠ [] := List.ne_nil_of_length_pos (by omega)
    rw [place_of_full_rolling c collect e r hrolls hfull]
    refine ⟨rfl, rfl, ?_, rfl, rfl, ?_, rfl⟩
    · rw [join_queue, dropOldest_queue, List.length_append, hstays, List.length_singleton]
    · rw [join_collectTimer, dropOldest_queue, if_neg hnonempty, dropOldest_collectTimer]
  case armed =>
    have hstays : (r.queue.drop (r.queue.length - (c.pre - 1))).length ≤ c.pre - 1 := by
      rw [List.length_drop]
      omega
    rw [place_rollFreeze_armed c collect e r hmode harmed]
    refine ⟨rfl, rfl, ?_, rfl, rfl, harmed, join_collectTimer collect e _⟩
    rw [join_queue, dropOldest_queue, List.length_append, List.length_singleton]
    omega

end
end
